-- ==== Sys2Proof/Word.lean ====
section
/-! DEFINITION. Word.lean: the widths of FTXE's values (spec/00_scope.md R5, R6). -/

namespace Sys2Proof

/-- A control register, a command word or a data-memory byte address: 32 bits (10_state.md R13, 00_scope.md P4). -/
abbrev Word := BitVec 32

/-- One byte of data memory (20_memory.md R40). -/
abbrev Byte := BitVec 8

/-- A kernel lane, an intermediate or result element, an output coefficient: W_STORE = 32 bits, signed
(00_scope.md P1). -/
abbrev Lane := BitVec 32

/-- An input sample as XBUF holds it: 16 bits, signed (10_state.md R26). -/
abbrev Sample := BitVec 16

end Sys2Proof
end

