-- ==== Sys2Proof/Syntax.lean ====
section
/-! DEFINITION. Syntax.lean: the 37 commands of FTXE-CMD v1, one constructor per row of spec/opcode_table.json
(30_encoding.md R65 to R70). An operand is a field of the command word as it stands (R66): `tt` is TXTYPE, `hbd` is HBD. -/

namespace Sys2Proof

/-- A command. SRC, STRIDE and DST are not in the word: they come from the control registers (R66). -/
inductive Instr where
  /-- `NOP`, R194. -/
  | nop
  /-- `FHT4X4 type [, hbd]`, R160. -/
  | fht4x4 (tt : BitVec 8) (hbd : Bool)
  /-- `FHT8X8 type [, hbd]`, R161. -/
  | fht8x8 (tt : BitVec 8) (hbd : Bool)
  /-- `FHT16X16 type [, hbd]`, R162. -/
  | fht16x16 (tt : BitVec 8) (hbd : Bool)
  /-- `FHT32X32 type [, hbd]`, R163. -/
  | fht32x32 (tt : BitVec 8) (hbd : Bool)
  /-- `FHT64X64 type [, hbd]`, R164. -/
  | fht64x64 (tt : BitVec 8) (hbd : Bool)
  /-- `FHT4X8 type [, hbd]`, R165. -/
  | fht4x8 (tt : BitVec 8) (hbd : Bool)
  /-- `FHT8X4 type [, hbd]`, R166. -/
  | fht8x4 (tt : BitVec 8) (hbd : Bool)
  /-- `FHT8X16 type [, hbd]`, R167. -/
  | fht8x16 (tt : BitVec 8) (hbd : Bool)
  /-- `FHT16X8 type [, hbd]`, R168. -/
  | fht16x8 (tt : BitVec 8) (hbd : Bool)
  /-- `FHT16X32 type [, hbd]`, R169. -/
  | fht16x32 (tt : BitVec 8) (hbd : Bool)
  /-- `FHT32X16 type [, hbd]`, R170. -/
  | fht32x16 (tt : BitVec 8) (hbd : Bool)
  /-- `FHT32X64 type [, hbd]`, R171. -/
  | fht32x64 (tt : BitVec 8) (hbd : Bool)
  /-- `FHT64X32 type [, hbd]`, R172. -/
  | fht64x32 (tt : BitVec 8) (hbd : Bool)
  /-- `FHT4X16 type [, hbd]`, R173. -/
  | fht4x16 (tt : BitVec 8) (hbd : Bool)
  /-- `FHT16X4 type [, hbd]`, R174. -/
  | fht16x4 (tt : BitVec 8) (hbd : Bool)
  /-- `FHT8X32 type [, hbd]`, R175. -/
  | fht8x32 (tt : BitVec 8) (hbd : Bool)
  /-- `FHT32X8 type [, hbd]`, R176. -/
  | fht32x8 (tt : BitVec 8) (hbd : Bool)
  /-- `FHT16X64 type [, hbd]`, R177. -/
  | fht16x64 (tt : BitVec 8) (hbd : Bool)
  /-- `FHT64X16 type [, hbd]`, R178. -/
  | fht64x16 (tt : BitVec 8) (hbd : Bool)
  /-- `FWHT4X4 [hbd]`, R192. -/
  | fwht4x4 (hbd : Bool)
  /-- `K1D.FDCT4`, R193. -/
  | k1dFdct4
  /-- `K1D.FDCT8`, R193. -/
  | k1dFdct8
  /-- `K1D.FDCT16`, R193. -/
  | k1dFdct16
  /-- `K1D.FDCT32`, R193. -/
  | k1dFdct32
  /-- `K1D.FDCT64`, R193. -/
  | k1dFdct64
  /-- `K1D.FADST4`, R193. -/
  | k1dFadst4
  /-- `K1D.FADST8`, R193. -/
  | k1dFadst8
  /-- `K1D.FADST16`, R193. -/
  | k1dFadst16
  /-- `K1D.FHALFRIGHT32`, R193. -/
  | k1dFhalfright32
  /-- `K1D.FHALFRIGHT64`, R193. -/
  | k1dFhalfright64
  /-- `K1D.FIDTX4`, R193. -/
  | k1dFidtx4
  /-- `K1D.FIDTX8`, R193. -/
  | k1dFidtx8
  /-- `K1D.FIDTX16`, R193. -/
  | k1dFidtx16
  /-- `K1D.FIDTX32`, R193. -/
  | k1dFidtx32
  /-- `K1D.FIDTX64`, R193. -/
  | k1dFidtx64
  /-- `K1D.WHT4`, R193. -/
  | k1dWht4
deriving DecidableEq, Repr

end Sys2Proof
end

