-- ==== Sys2Proof/Decode.lean ====
section
/-! DEFINITION. Decode.lean: from a command word to a command and back (spec/30_encoding.md).
The decoder reads the fields of R65 and checks them in the order of R73; it is total and rejects by name. The encoder
is the assembly of R77. -/

namespace Sys2Proof

/-- Why a word names no entry point (R72). Every one of these is `Fault(ILLEGAL_ENTRY)` on the machine. -/
inductive Reject where
  /-- Bits 31:21 are not all 0. -/
  | reservedBits
  /-- `OPC` is 4 or more (R67). -/
  | opcode
  /-- `OPC` = 0 with a `SEL`, `TXTYPE` or `HBD` that is not 0. -/
  | nopOperands
  /-- `OPC` = 1 with `SEL` above 18 (R68). -/
  | noSuchShape
  /-- `OPC` = 2 with a `SEL` or `TXTYPE` that is not 0. -/
  | whtOperands
  /-- `OPC` = 3 with a `SEL` that is no kernel id of R70. -/
  | noSuchKernel
  /-- `OPC` = 3 with a `TXTYPE` or `HBD` that is not 0. -/
  | k1dOperands
deriving DecidableEq, Repr

/-- What the decoder answers. -/
inductive Decoded where
  | ok (i : Instr)
  | reject (r : Reject)
deriving DecidableEq, Repr

/-- The command a `Decoded` holds, if it holds one. -/
def Decoded.instr? : Decoded → Option Instr
  | .ok i => some i
  | .reject _ => none

/-- `TXTYPE`, bits 7:0 (R65). -/
def fieldTxType (w : Word) : BitVec 8 := w.extractLsb' 0 8
/-- `SEL`, bits 15:8 (R65). -/
def fieldSel (w : Word) : BitVec 8 := w.extractLsb' 8 8
/-- `OPC`, bits 19:16 (R65). -/
def fieldOpc (w : Word) : BitVec 4 := w.extractLsb' 16 4
/-- `HBD`, bit 20 (R65). -/
def fieldHbd (w : Word) : Bool := w.getLsbD 20
/-- The reserved bits 31:21 (R65). -/
def fieldReserved (w : Word) : BitVec 11 := w.extractLsb' 21 11

/-- The `FHT*` entry point of a shape code (R68); none for a code above 18. -/
def shapeEntry (sel : BitVec 8) : Option (BitVec 8 → Bool → Instr) :=
  match sel.toNat with
  | 0 => some .fht4x4
  | 1 => some .fht8x8
  | 2 => some .fht16x16
  | 3 => some .fht32x32
  | 4 => some .fht64x64
  | 5 => some .fht4x8
  | 6 => some .fht8x4
  | 7 => some .fht8x16
  | 8 => some .fht16x8
  | 9 => some .fht16x32
  | 10 => some .fht32x16
  | 11 => some .fht32x64
  | 12 => some .fht64x32
  | 13 => some .fht4x16
  | 14 => some .fht16x4
  | 15 => some .fht8x32
  | 16 => some .fht32x8
  | 17 => some .fht16x64
  | 18 => some .fht64x16
  | _ => none

/-- The `K1D` entry point of a kernel id (R70); none for a value that names no kernel. -/
def kernelEntry (sel : BitVec 8) : Option Instr :=
  match sel.toNat with
  | 0x00 => some .k1dFdct4
  | 0x01 => some .k1dFdct8
  | 0x02 => some .k1dFdct16
  | 0x03 => some .k1dFdct32
  | 0x04 => some .k1dFdct64
  | 0x08 => some .k1dFadst4
  | 0x09 => some .k1dFadst8
  | 0x0A => some .k1dFadst16
  | 0x0B => some .k1dFhalfright32
  | 0x0C => some .k1dFhalfright64
  | 0x10 => some .k1dFidtx4
  | 0x11 => some .k1dFidtx8
  | 0x12 => some .k1dFidtx16
  | 0x13 => some .k1dFidtx32
  | 0x14 => some .k1dFidtx64
  | 0x18 => some .k1dWht4
  | _ => none

/-- Decoding of a command word, the checks in the order of R73. -/
def decode (w : Word) : Decoded :=
  if fieldReserved w ≠ 0 then .reject .reservedBits
  else match (fieldOpc w).toNat with
    | 0 =>
      if fieldSel w ≠ 0 ∨ fieldTxType w ≠ 0 ∨ fieldHbd w then .reject .nopOperands else .ok .nop
    | 1 =>
      match shapeEntry (fieldSel w) with
      | some entry => .ok (entry (fieldTxType w) (fieldHbd w))
      | none => .reject .noSuchShape
    | 2 =>
      if fieldSel w ≠ 0 ∨ fieldTxType w ≠ 0 then .reject .whtOperands else .ok (.fwht4x4 (fieldHbd w))
    | 3 =>
      match kernelEntry (fieldSel w) with
      | some i => if fieldTxType w ≠ 0 ∨ fieldHbd w then .reject .k1dOperands else .ok i
      | none => .reject .noSuchKernel
    | _ => .reject .opcode

/-- The word of the four fields, put together as R77 does. -/
def assemble (hbd : Bool) (opc sel : Nat) (tt : BitVec 8) : Word :=
  (BitVec.ofNat 32 hbd.toNat <<< 20) ||| (BitVec.ofNat 32 opc <<< 16) ||| (BitVec.ofNat 32 sel <<< 8)
    ||| tt.setWidth 32

/-- The command word of a command (R77, with the shape codes of R68 and the kernel ids of R70). -/
def encode : Instr → Word
  | .nop => 0
  | .fht4x4 tt hbd => assemble hbd 1 0 tt
  | .fht8x8 tt hbd => assemble hbd 1 1 tt
  | .fht16x16 tt hbd => assemble hbd 1 2 tt
  | .fht32x32 tt hbd => assemble hbd 1 3 tt
  | .fht64x64 tt hbd => assemble hbd 1 4 tt
  | .fht4x8 tt hbd => assemble hbd 1 5 tt
  | .fht8x4 tt hbd => assemble hbd 1 6 tt
  | .fht8x16 tt hbd => assemble hbd 1 7 tt
  | .fht16x8 tt hbd => assemble hbd 1 8 tt
  | .fht16x32 tt hbd => assemble hbd 1 9 tt
  | .fht32x16 tt hbd => assemble hbd 1 10 tt
  | .fht32x64 tt hbd => assemble hbd 1 11 tt
  | .fht64x32 tt hbd => assemble hbd 1 12 tt
  | .fht4x16 tt hbd => assemble hbd 1 13 tt
  | .fht16x4 tt hbd => assemble hbd 1 14 tt
  | .fht8x32 tt hbd => assemble hbd 1 15 tt
  | .fht32x8 tt hbd => assemble hbd 1 16 tt
  | .fht16x64 tt hbd => assemble hbd 1 17 tt
  | .fht64x16 tt hbd => assemble hbd 1 18 tt
  | .fwht4x4 hbd => assemble hbd 2 0 0
  | .k1dFdct4 => assemble false 3 0x00 0
  | .k1dFdct8 => assemble false 3 0x01 0
  | .k1dFdct16 => assemble false 3 0x02 0
  | .k1dFdct32 => assemble false 3 0x03 0
  | .k1dFdct64 => assemble false 3 0x04 0
  | .k1dFadst4 => assemble false 3 0x08 0
  | .k1dFadst8 => assemble false 3 0x09 0
  | .k1dFadst16 => assemble false 3 0x0A 0
  | .k1dFhalfright32 => assemble false 3 0x0B 0
  | .k1dFhalfright64 => assemble false 3 0x0C 0
  | .k1dFidtx4 => assemble false 3 0x10 0
  | .k1dFidtx8 => assemble false 3 0x11 0
  | .k1dFidtx16 => assemble false 3 0x12 0
  | .k1dFidtx32 => assemble false 3 0x13 0
  | .k1dFidtx64 => assemble false 3 0x14 0
  | .k1dWht4 => assemble false 3 0x18 0

/-- The mask of the command's row of spec/opcode_table.json, as the table gives it (R74). -/
def rowMask : Instr → Word
  | .nop => 0xFFFFFFFF
  | .fht4x4 _ _ => 0xFFEFFF00
  | .fht8x8 _ _ => 0xFFEFFF00
  | .fht16x16 _ _ => 0xFFEFFF00
  | .fht32x32 _ _ => 0xFFEFFF00
  | .fht64x64 _ _ => 0xFFEFFF00
  | .fht4x8 _ _ => 0xFFEFFF00
  | .fht8x4 _ _ => 0xFFEFFF00
  | .fht8x16 _ _ => 0xFFEFFF00
  | .fht16x8 _ _ => 0xFFEFFF00
  | .fht16x32 _ _ => 0xFFEFFF00
  | .fht32x16 _ _ => 0xFFEFFF00
  | .fht32x64 _ _ => 0xFFEFFF00
  | .fht64x32 _ _ => 0xFFEFFF00
  | .fht4x16 _ _ => 0xFFEFFF00
  | .fht16x4 _ _ => 0xFFEFFF00
  | .fht8x32 _ _ => 0xFFEFFF00
  | .fht32x8 _ _ => 0xFFEFFF00
  | .fht16x64 _ _ => 0xFFEFFF00
  | .fht64x16 _ _ => 0xFFEFFF00
  | .fwht4x4 _ => 0xFFEFFFFF
  | .k1dFdct4 => 0xFFFFFFFF
  | .k1dFdct8 => 0xFFFFFFFF
  | .k1dFdct16 => 0xFFFFFFFF
  | .k1dFdct32 => 0xFFFFFFFF
  | .k1dFdct64 => 0xFFFFFFFF
  | .k1dFadst4 => 0xFFFFFFFF
  | .k1dFadst8 => 0xFFFFFFFF
  | .k1dFadst16 => 0xFFFFFFFF
  | .k1dFhalfright32 => 0xFFFFFFFF
  | .k1dFhalfright64 => 0xFFFFFFFF
  | .k1dFidtx4 => 0xFFFFFFFF
  | .k1dFidtx8 => 0xFFFFFFFF
  | .k1dFidtx16 => 0xFFFFFFFF
  | .k1dFidtx32 => 0xFFFFFFFF
  | .k1dFidtx64 => 0xFFFFFFFF
  | .k1dWht4 => 0xFFFFFFFF

/-- The match of the command's row of spec/opcode_table.json, as the table gives it (R74). -/
def rowMatch : Instr → Word
  | .nop => 0x00000000
  | .fht4x4 _ _ => 0x00010000
  | .fht8x8 _ _ => 0x00010100
  | .fht16x16 _ _ => 0x00010200
  | .fht32x32 _ _ => 0x00010300
  | .fht64x64 _ _ => 0x00010400
  | .fht4x8 _ _ => 0x00010500
  | .fht8x4 _ _ => 0x00010600
  | .fht8x16 _ _ => 0x00010700
  | .fht16x8 _ _ => 0x00010800
  | .fht16x32 _ _ => 0x00010900
  | .fht32x16 _ _ => 0x00010A00
  | .fht32x64 _ _ => 0x00010B00
  | .fht64x32 _ _ => 0x00010C00
  | .fht4x16 _ _ => 0x00010D00
  | .fht16x4 _ _ => 0x00010E00
  | .fht8x32 _ _ => 0x00010F00
  | .fht32x8 _ _ => 0x00011000
  | .fht16x64 _ _ => 0x00011100
  | .fht64x16 _ _ => 0x00011200
  | .fwht4x4 _ => 0x00020000
  | .k1dFdct4 => 0x00030000
  | .k1dFdct8 => 0x00030100
  | .k1dFdct16 => 0x00030200
  | .k1dFdct32 => 0x00030300
  | .k1dFdct64 => 0x00030400
  | .k1dFadst4 => 0x00030800
  | .k1dFadst8 => 0x00030900
  | .k1dFadst16 => 0x00030A00
  | .k1dFhalfright32 => 0x00030B00
  | .k1dFhalfright64 => 0x00030C00
  | .k1dFidtx4 => 0x00031000
  | .k1dFidtx8 => 0x00031100
  | .k1dFidtx16 => 0x00031200
  | .k1dFidtx32 => 0x00031300
  | .k1dFidtx64 => 0x00031400
  | .k1dWht4 => 0x00031800

/-- The command the decoder reads from a table word: every row of spec/opcode_table.json is one 32-bit word whose bits
the table numbers as the word does, so no byte order enters (a command word is a register write, R65). A number that
does not fit `nbits` or 32 bits is no such word. -/
def decodeTableWord (nbits w : Nat) : Option Instr :=
  if w < 2 ^ nbits ∧ w < 2 ^ 32 then (decode (BitVec.ofNat 32 w)).instr? else none

end Sys2Proof
end

