-- ==== Sys2Proof/Config.lean ====
section
/-! DEFINITION. Config.lean: the implementation parameters (spec/00_scope.md R5). The three open ones
are constants without a body: nothing in Lean can evaluate them or prove a value of them. -/

namespace Sys2Proof

/-- Accesses the platform does not admit: those of `width` bytes whose address lies in the `size` bytes from `base`.
A list of these is a value of the open parameter MemAdmit (20_memory.md R48; log entry 3). -/
structure Hole where
  base : Nat
  size : Nat
  width : Nat
deriving DecidableEq, Repr

end Sys2Proof

namespace Sys2Proof.Config

/-- P7 DEBUG_CHECKS, OPEN, fixed at instantiation (92_eei_decisions.md D19; log entry 1). A state holds
it in CAP, so statements about states hold for both values. -/
opaque debugChecks : Bool

/-- P5 N_ENGINES, OPEN and at least 1 (92_eei_decisions.md D2; log entry 2): the number of engines beyond the first. -/
opaque extraEngines : Nat

/-- P12 MemAdmit, OPEN (92_eei_decisions.md D9; log entry 3), as the list of what it does not admit. A state holds it in
`State.holes`, which no action changes, so statements about states hold for every platform. -/
opaque notAdmitted : List Hole

/-- P3 COS_BITS: the fraction bits of every constant and the rounding shift after a constant multiply. -/
def cosBits : Nat := 14

/-- P6 UNIT_QUANT_SHIFT: the Walsh-Hadamard unit factor is `2 ^ unitQuantShift`. -/
def unitQuantShift : Nat := 2

/-- P11 KEEP_DIM: the largest retained frequency count per dimension. -/
def keepDim : Nat := 32

/-- The number of data-memory bytes, `2 ^ ADDR_BITS` (P4; 20_memory.md R40). -/
def memBytes : Nat := 2 ^ 32

end Sys2Proof.Config
end

