-- ==== Sys2Proof/Machine/State.lean ====
section
/-! DEFINITION. Machine/State.lean: what the machine holds (spec/10_state.md R13 to R36, 20_memory.md R40, 60_exceptions.md R212), and
why a step can stop. -/

namespace Sys2Proof.Machine

/-- The run state of an engine (10_state.md R34). -/
inductive RunState where
  | idle
  | faulted
deriving DecidableEq, Repr

/-- One engine instance (10_state.md R13). The constant ROMs are definitions (Machine/Rom.lean, Machine/Networks.lean). -/
structure Engine where
  /-- `CAP`: bit 0 is DEBUG_CHECKS, the rest 0 (R18). No action writes it. -/
  cap : Word
  /-- `SRC`: the address of input sample (0,0), or of input word 0 for K1D (R19). -/
  src : Word
  /-- `STRIDE`: samples between vertically adjacent samples (R20). -/
  stride : Word
  /-- `DST`: the address of output word 0 (R21). -/
  dst : Word
  /-- `CMD`: the last command word stored (R22). -/
  cmd : Word
  /-- `STATUS`: DONE bit 0, FAULT bit 1, CAUSE bits 7:4 (R23). -/
  status : Word
  /-- `FINFO`: the command word that faulted (R24). -/
  finfo : Word
  /-- The run state (R34). -/
  run : RunState
  /-- The lane registers `VIN[0..63]` (R14). -/
  vin : Vector Lane 64
  /-- The lane registers `VOUT[0..63]` (R14). -/
  vout : Vector Lane 64
  /-- The stage vectors `b0 .. b11` (R14; FDCT64 has eleven stages, R116; log entry 14). -/
  b : Vector (Vector Lane 64) 12
  /-- The flip scratch `XBUF[r][c]` (R26). -/
  xbuf : Vector (Vector Sample 64) 64
  /-- The intermediate buffer `MID[r][c]` (R27). -/
  mid : Vector (Vector Lane 64) 64
  /-- The result buffer `RES[r][c]` (R28). -/
  res : Vector (Vector Lane 64) 64
  /-- The budget bit (40_primitives.md R101). -/
  viol : Bool
deriving DecidableEq, Repr

/-- An engine after reset whose `CAP` is `cap` (10_state.md R35, 70_reset_and_hazards.md R230). The spec leaves the scratch
unspecified; it is 0 here: DESIGN CHOICE, log entry 5. -/
def Engine.afterReset (cap : Word) : Engine where
  cap := cap
  src := 0
  stride := 0
  dst := 0
  cmd := 0
  status := 0
  finfo := 0
  run := .idle
  vin := Vector.replicate 64 0
  vout := Vector.replicate 64 0
  b := Vector.replicate 12 (Vector.replicate 64 0)
  xbuf := Vector.replicate 64 (Vector.replicate 64 0)
  mid := Vector.replicate 64 (Vector.replicate 64 0)
  res := Vector.replicate 64 (Vector.replicate 64 0)
  viol := false

/-- `CAP` as the instantiation fixes it: bit 0 DEBUG_CHECKS, `ALT` and bits 31:2 zero (R18). -/
def capWord (debugChecks : Bool) : Word := BitVec.ofNat 32 debugChecks.toNat

/-- Data memory: (address, byte) pairs in one canonical form (`Memory.wf`, Machine/Ops.lean). -/
abbrev Memory := List Host.Cell

/-- A run of `len` consecutive byte addresses from `start`, not reduced modulo the memory's size. -/
structure Span where
  start : Nat
  len : Nat
deriving DecidableEq, Repr

/-- The regions of a command (20_memory.md R46) and the host that wrote it, kept while other commands may still be
concurrent with it (R55; log entry 9). `after` lists the other hosts whose next actions the hosts' synchronisation has put
after the command, `tokens` the signals that carry that order to whoever waits for them. -/
structure Footprint where
  host : Nat
  reads : List Span
  writes : Span
  after : List Nat
  tokens : List Nat
deriving DecidableEq, Repr

/-- The width of a host's own store (30_encoding.md R76: `st8`, `st16`, `st32`). -/
inductive StoreWidth where
  | st8
  | st16
  | st32
deriving DecidableEq, Repr

/-- One action of a host, or of the platform on a host's order line (30_encoding.md R76, 20_memory.md R60, 70_reset_and_hazards.md R230).
`e` is the engine's index. -/
inductive HostAction where
  /-- `RegWrite(off, v)` on engine `e`, of `width` bytes. -/
  | regWrite (e off width : Nat) (v : Word)
  /-- `RegRead(off)` on engine `e`, of `width` bytes. -/
  | regRead (e off width : Nat)
  /-- The host's own store to data memory. -/
  | store (w : StoreWidth) (addr v : Word)
  /-- The host's own 4-byte load from data memory. -/
  | load (addr : Word)
  /-- `Reset(e)`. -/
  | reset (e : Nat)
  /-- All hosts synchronise: every command before it is ordered before every command after it (20_memory.md R55). -/
  | sync
  /-- The host gives a signal: whatever is ordered before it now is ordered before any host that waits for `token`
  later (20_memory.md R55; log entry 9). -/
  | signal (token : Nat)
  /-- The host has received the signals given for `token` so far (20_memory.md R55; log entry 9). -/
  | wait (token : Nat)
deriving DecidableEq, Repr

/-- An action and the host it comes from. -/
structure HostOp where
  host : Nat
  act : HostAction
deriving DecidableEq, Repr

/-- The whole system: the engines `lower ++ eng :: upper` in the order of their indexes, the shared data memory, and
the model's own fields. `eng` is the engine the latest action addressed: its index is `lower.length`. -/
structure State where
  lower : List Engine
  eng : Engine
  upper : List Engine
  mem : Memory
  holes : List Hole
  pending : List HostOp
  host : Nat
  window : List Footprint
  rdata : Word
deriving DecidableEq, Repr

/-- All engines `E_0 .. E_(N_ENGINES-1)`, in order. -/
def State.engines (s : State) : List Engine := s.lower ++ s.eng :: s.upper

/-- The system after power-up: every engine reset (70_reset_and_hazards.md R230, 60_exceptions.md R212), nothing written
to data memory, no host action pending. What the platform admits is open (00_scope.md R5 P12). -/
def State.reset : State where
  lower := []
  eng := Engine.afterReset (capWord Config.debugChecks)
  upper := List.replicate Config.extraEngines (Engine.afterReset (capWord Config.debugChecks))
  mem := []
  holes := Config.notAdmitted
  pending := []
  host := 0
  window := []
  rdata := 0

/-- Why a step stops. The engine's own faults are not here: taking one is a next state (60_exceptions.md R204). -/
inductive Fault where
  /-- An access the platform does not admit: the engine is stuck at the command and has no step (20_memory.md R48,
  93 U3). Raised by every command that reads or writes memory and by the hosts' own accesses. Safe: nothing is claimed
  of such a run. -/
  | notAdmitted
  /-- A host's own load or store runs past byte `2^32 - 1`, where there is no memory (20_memory.md R40). Raised by the host
  actions `store` and `load`. Safe. -/
  | noSuchAddress
deriving DecidableEq, Repr

/-- Why the model gives an action no meaning. -/
inductive Refusal where
  /-- An instruction that has no meaning in the model yet. -/
  | notModelled (mnemonic : String)
  /-- The input and the output region of a command share a byte (20_memory.md R47, 93 U2). Raised by every command with
  regions. Safe. -/
  | regionsOverlap
  /-- A region of a command wraps past address `2^32 - 1` (20_memory.md R47, 93 U2). Raised by every command with regions. Safe. -/
  | regionWraps
  /-- A command whose regions overlap those of a concurrent command as 20_memory.md R55 forbids (93 U4). Raised by every
  command with regions. Safe. -/
  | concurrentOverlap
  /-- A register access that is not one aligned 32-bit word of the window (20_memory.md R60, 93 U5). Raised by the host actions
  `regWrite` and `regRead`. Safe. -/
  | registerAccess
  /-- An action names an engine the system does not have (60_exceptions.md R212; log entry 2). Raised by the host actions
  `regWrite`, `regRead` and `reset`. Safe. -/
  | noSuchEngine
deriving DecidableEq, Repr

end Sys2Proof.Machine
end

