-- ==== Sys2Proof/Machine/Primitives.lean ====
section
/-! DEFINITION. Machine/Primitives.lean: the fixed-point primitives (spec/40_primitives.md). A calculation carries the budget bit
`viol` (R101): every narrowing that changes its value sets it. -/

namespace Sys2Proof.Machine

/-- A calculation of one command, with the budget bit as its state (R101). -/
abbrev Calc (α : Type) := StateM Bool α

/-- Set the budget bit when `bad` holds. -/
def charge (bad : Bool) : Calc Unit := modify fun viol => bad || viol

/-- `NARROW_S`: 32 bits, signed; out of budget when the value changes (R90). -/
def narrowS (v : Int) : Calc Lane := do
  charge (decide ((BitVec.ofInt 32 v).toInt ≠ v))
  pure (BitVec.ofInt 32 v)

/-- `NARROW_W`: 64 bits, signed (R90). -/
def narrowW (v : Int) : Calc Int := do
  charge (decide ((BitVec.ofInt 64 v).toInt ≠ v))
  pure (BitVec.ofInt 64 v).toInt

/-- `ROUND_SHIFT(v, n)`: to nearest, an exact half toward plus infinity (R91). -/
def roundShift (v : Int) : Nat → Calc Int
  | 0 => pure v
  | n + 1 => do
    let w ← narrowW (v + 2 ^ n)
    pure (w >>> (n + 1))

/-- `ROUND_SHIFT_SIGNED(v, n)`: to nearest, an exact half away from zero (R92). -/
def roundShiftSigned (v : Int) : Nat → Int
  | 0 => v
  | n + 1 => if 0 ≤ v then (v + 2 ^ n) >>> (n + 1) else -((-v + 2 ^ n) >>> (n + 1))

/-- `ROT(w0, a, w1, b)` (R96). -/
def rot (w0 : Int) (a : Lane) (w1 : Int) (b : Lane) : Calc Lane := do
  let p ← narrowW (w0 * a.toInt + w1 * b.toInt)
  let q ← roundShift p Config.cosBits
  narrowS q

/-- `MULC(a, c)` (R97). -/
def mulc (a : Lane) (c : Int) : Calc Lane := do
  let q ← roundShift (a.toInt * c) Config.cosBits
  narrowS q

/-- `ADD(a, b)` (R98). -/
def add (a b : Lane) : Calc Lane := narrowS (a.toInt + b.toInt)

/-- `SUB(a, b)` (R98). -/
def sub (a b : Lane) : Calc Lane := narrowS (a.toInt - b.toInt)

/-- `NEG(a)` (R98). -/
def neg (a : Lane) : Calc Lane := narrowS (-a.toInt)

/-- `SHL(a, k)` (R99). -/
def shl (a : Lane) (k : Nat) : Calc Lane := narrowS (a.toInt * 2 ^ k)

/-- `RS14(v)` of 43_adst_kernels.md: round a working value by 14 bits and narrow it to a lane. -/
def rs14 (v : Int) : Calc Lane := do
  let w ← narrowW v
  let q ← roundShift w Config.cosBits
  narrowS q

/-- Lane `i` of a vector of lanes. -/
def lane (v : List Lane) (i : Nat) : Lane := v.getD i 0

end Sys2Proof.Machine
end

