-- ==== Sys2Proof/Machine/Rom.lean ====
section
/-! DEFINITION. Machine/Rom.lean: the names of the shapes, transform types and kernels (spec/30_encoding.md R68 to R70) and the
constant ROM of an engine (spec/10_state.md R29 to R31): the trigonometric tables, the flip classes and the dispatch records. -/

namespace Sys2Proof.Machine

/-! ### Trigonometric tables (spec/40_primitives.md R93 to R95) -/

/-- The 65 values of R94, `k` = 0 first. -/
def cospiTable : List Int :=
  [16384, 16379, 16364, 16340, 16305, 16261, 16207, 16143, 16069, 15986, 15893, 15791, 15679,
   15557, 15426, 15286, 15137, 14978, 14811, 14635, 14449, 14256, 14053, 13842, 13623, 13395,
   13160, 12916, 12665, 12406, 12140, 11866, 11585, 11297, 11003, 10702, 10394, 10080, 9760,
   9434, 9102, 8765, 8423, 8076, 7723, 7366, 7005, 6639, 6270, 5897, 5520, 5139,
   4756, 4370, 3981, 3590, 3196, 2801, 2404, 2006, 1606, 1205, 804, 402, 0]

/-- `COSPI[k]` (R94). -/
def cospi (k : Nat) : Int := cospiTable.getD k 0

/-- `SINPI[1]` (R95). -/
def sinpi1 : Int := 5283
/-- `SINPI[2]` (R95). -/
def sinpi2 : Int := 9929
/-- `SINPI[3]` (R95). -/
def sinpi3 : Int := 13377
/-- `SINPI[4]` (R95). -/
def sinpi4 : Int := 15212

/-- `SQRT2` (R93). -/
def sqrt2 : Int := 23170

/-! ### Kernels (spec/30_encoding.md R70) -/

/-- The sixteen 1-D kernels. -/
inductive Kernel where
  | fdct4
  | fdct8
  | fdct16
  | fdct32
  | fdct64
  | fadst4
  | fadst8
  | fadst16
  | fhalfright32
  | fhalfright64
  | fidtx4
  | fidtx8
  | fidtx16
  | fidtx32
  | fidtx64
  | wht4
deriving DecidableEq, Repr

/-- The kernel id of R70. -/
def kernelId : Kernel → Nat
  | .fdct4 => 0x00
  | .fdct8 => 0x01
  | .fdct16 => 0x02
  | .fdct32 => 0x03
  | .fdct64 => 0x04
  | .fadst4 => 0x08
  | .fadst8 => 0x09
  | .fadst16 => 0x0A
  | .fhalfright32 => 0x0B
  | .fhalfright64 => 0x0C
  | .fidtx4 => 0x10
  | .fidtx8 => 0x11
  | .fidtx16 => 0x12
  | .fidtx32 => 0x13
  | .fidtx64 => 0x14
  | .wht4 => 0x18

/-- The kernel's length L (R70). -/
def kernelLen : Kernel → Nat
  | .fdct4 => 4
  | .fdct8 => 8
  | .fdct16 => 16
  | .fdct32 => 32
  | .fdct64 => 64
  | .fadst4 => 4
  | .fadst8 => 8
  | .fadst16 => 16
  | .fhalfright32 => 32
  | .fhalfright64 => 64
  | .fidtx4 => 4
  | .fidtx8 => 8
  | .fidtx16 => 16
  | .fidtx32 => 32
  | .fidtx64 => 64
  | .wht4 => 4

/-! ### Transform types (spec/30_encoding.md R69, 00_scope.md R9) -/

/-- The kind of a transform along one axis. -/
inductive Kind where
  | dct
  | adst
  | flipadst
  | identity
deriving DecidableEq, Repr

/-- The sixteen transform types. -/
inductive TxType where
  | dctDct
  | adstDct
  | dctAdst
  | adstAdst
  | flipadstDct
  | dctFlipadst
  | flipadstFlipadst
  | adstFlipadst
  | flipadstAdst
  | idtx
  | vDct
  | hDct
  | vAdst
  | hAdst
  | vFlipadst
  | hFlipadst
deriving DecidableEq, Repr

/-- The transform type of a TXTYPE code; none for 16 to 255 (R69). -/
def txTypeOf (tt : BitVec 8) : Option TxType :=
  match tt.toNat with
  | 0 => some .dctDct
  | 1 => some .adstDct
  | 2 => some .dctAdst
  | 3 => some .adstAdst
  | 4 => some .flipadstDct
  | 5 => some .dctFlipadst
  | 6 => some .flipadstFlipadst
  | 7 => some .adstFlipadst
  | 8 => some .flipadstAdst
  | 9 => some .idtx
  | 10 => some .vDct
  | 11 => some .hDct
  | 12 => some .vAdst
  | 13 => some .hAdst
  | 14 => some .vFlipadst
  | 15 => some .hFlipadst
  | _ => none

/-- The vertical (column) kind (R69). -/
def verticalKind : TxType → Kind
  | .dctDct => .dct
  | .adstDct => .adst
  | .dctAdst => .dct
  | .adstAdst => .adst
  | .flipadstDct => .flipadst
  | .dctFlipadst => .dct
  | .flipadstFlipadst => .flipadst
  | .adstFlipadst => .adst
  | .flipadstAdst => .flipadst
  | .idtx => .identity
  | .vDct => .dct
  | .hDct => .identity
  | .vAdst => .adst
  | .hAdst => .identity
  | .vFlipadst => .flipadst
  | .hFlipadst => .identity

/-- The horizontal (row) kind (R69). -/
def horizontalKind : TxType → Kind
  | .dctDct => .dct
  | .adstDct => .dct
  | .dctAdst => .adst
  | .adstAdst => .adst
  | .flipadstDct => .dct
  | .dctFlipadst => .flipadst
  | .flipadstFlipadst => .flipadst
  | .adstFlipadst => .flipadst
  | .flipadstAdst => .adst
  | .idtx => .identity
  | .vDct => .identity
  | .hDct => .dct
  | .vAdst => .identity
  | .hAdst => .adst
  | .vFlipadst => .identity
  | .hFlipadst => .flipadst

/-- A flip class: `ud` mirrors the rows top to bottom, `lr` the columns left to right (spec/45_flip.md R140). -/
structure FlipClass where
  lr : Bool
  ud : Bool
deriving DecidableEq, Repr

/-- `FLIPCLASS[type]` (R140). -/
def flipClass : TxType → FlipClass
  | .dctDct => ⟨false, false⟩
  | .adstDct => ⟨false, false⟩
  | .dctAdst => ⟨false, false⟩
  | .adstAdst => ⟨false, false⟩
  | .flipadstDct => ⟨false, true⟩
  | .dctFlipadst => ⟨true, false⟩
  | .flipadstFlipadst => ⟨true, true⟩
  | .adstFlipadst => ⟨true, false⟩
  | .flipadstAdst => ⟨false, true⟩
  | .idtx => ⟨false, false⟩
  | .vDct => ⟨false, false⟩
  | .hDct => ⟨false, false⟩
  | .vAdst => ⟨false, false⟩
  | .hAdst => ⟨false, false⟩
  | .vFlipadst => ⟨false, true⟩
  | .hFlipadst => ⟨true, false⟩

/-! ### Block shapes (spec/30_encoding.md R68) -/

/-- The nineteen block shapes, width first (00_scope.md R8). -/
inductive Shape where
  | s4x4
  | s8x8
  | s16x16
  | s32x32
  | s64x64
  | s4x8
  | s8x4
  | s8x16
  | s16x8
  | s16x32
  | s32x16
  | s32x64
  | s64x32
  | s4x16
  | s16x4
  | s8x32
  | s32x8
  | s16x64
  | s64x16
deriving DecidableEq, Repr

/-- The shape's width W. -/
def shapeWidth : Shape → Nat
  | .s4x4 => 4
  | .s8x8 => 8
  | .s16x16 => 16
  | .s32x32 => 32
  | .s64x64 => 64
  | .s4x8 => 4
  | .s8x4 => 8
  | .s8x16 => 8
  | .s16x8 => 16
  | .s16x32 => 16
  | .s32x16 => 32
  | .s32x64 => 32
  | .s64x32 => 64
  | .s4x16 => 4
  | .s16x4 => 16
  | .s8x32 => 8
  | .s32x8 => 32
  | .s16x64 => 16
  | .s64x16 => 64

/-- The shape's height H. -/
def shapeHeight : Shape → Nat
  | .s4x4 => 4
  | .s8x8 => 8
  | .s16x16 => 16
  | .s32x32 => 32
  | .s64x64 => 64
  | .s4x8 => 8
  | .s8x4 => 4
  | .s8x16 => 16
  | .s16x8 => 8
  | .s16x32 => 32
  | .s32x16 => 16
  | .s32x64 => 64
  | .s64x32 => 32
  | .s4x16 => 16
  | .s16x4 => 4
  | .s8x32 => 32
  | .s32x8 => 8
  | .s16x64 => 64
  | .s64x16 => 16

/-! ### The dispatch records (spec/30_encoding.md R75, 46_transform_2d.md R149 to R156) -/

/-- The order of the two passes (R154). -/
inductive PassOrder where
  | rowsFirst
  | colsFirst
deriving DecidableEq, Repr

/-- A dispatch record, held as a structure with the fields of R75. -/
structure DispatchRecord where
  rowk : Kernel
  colk : Kernel
  inUp : Nat
  inSqrt2 : Bool
  midShift : Nat
  outShift : Nat
  order : PassOrder
deriving DecidableEq, Repr

/-- Kernel selection by kind and length (R149); a length that no shape has selects nothing. -/
def kernelFor (k : Kind) (len : Nat) : Option Kernel :=
  match k, len with
  | .dct, 4 => some .fdct4
  | .dct, 8 => some .fdct8
  | .dct, 16 => some .fdct16
  | .dct, 32 => some .fdct32
  | .dct, 64 => some .fdct64
  | .adst, 4 => some .fadst4
  | .adst, 8 => some .fadst8
  | .adst, 16 => some .fadst16
  | .adst, 32 => some .fhalfright32
  | .adst, 64 => some .fhalfright64
  | .flipadst, 4 => some .fadst4
  | .flipadst, 8 => some .fadst8
  | .flipadst, 16 => some .fadst16
  | .flipadst, 32 => some .fhalfright32
  | .flipadst, 64 => some .fhalfright64
  | .identity, 4 => some .fidtx4
  | .identity, 8 => some .fidtx8
  | .identity, 16 => some .fidtx16
  | .identity, 32 => some .fidtx32
  | .identity, 64 => some .fidtx64
  | _, _ => none

/-- The scaling constants of a shape: IN_UP, IN_SQRT2, MID_SHIFT, OUT_SHIFT (R155). -/
structure ScaleRow where
  inUp : Nat
  inSqrt2 : Bool
  midShift : Nat
  outShift : Nat
deriving DecidableEq, Repr

/-- The scale table (R155). -/
def scaleTable : Shape → ScaleRow
  | .s4x4 => ⟨4, false, 0, 2⟩
  | .s8x8 => ⟨2, false, 0, 1⟩
  | .s16x16 => ⟨2, false, 2, 0⟩
  | .s32x32 => ⟨2, false, 4, 0⟩
  | .s64x64 => ⟨0, false, 2, 2⟩
  | .s4x8 => ⟨2, true, 0, 1⟩
  | .s8x4 => ⟨2, true, 0, 1⟩
  | .s8x16 => ⟨2, true, 2, 0⟩
  | .s16x8 => ⟨2, true, 2, 0⟩
  | .s16x32 => ⟨2, true, 4, 0⟩
  | .s32x16 => ⟨2, true, 4, 0⟩
  | .s32x64 => ⟨2, true, 4, 2⟩
  | .s64x32 => ⟨2, true, 4, 2⟩
  | .s4x16 => ⟨2, false, 0, 1⟩
  | .s16x4 => ⟨2, false, 0, 1⟩
  | .s8x32 => ⟨2, false, 2, 0⟩
  | .s32x8 => ⟨2, false, 2, 0⟩
  | .s16x64 => ⟨2, false, 4, 0⟩
  | .s64x16 => ⟨2, false, 4, 0⟩

/-- The pass order of a shape: columns first exactly when it is wider than tall (R154). -/
def passOrder (sh : Shape) : PassOrder :=
  if shapeHeight sh < shapeWidth sh then .colsFirst else .rowsFirst

/-- `DISPATCH[shape][type]` (R156). -/
def dispatch (sh : Shape) (t : TxType) : DispatchRecord where
  rowk := (kernelFor (horizontalKind t) (shapeWidth sh)).getD .wht4
  colk := (kernelFor (verticalKind t) (shapeHeight sh)).getD .wht4
  inUp := (scaleTable sh).inUp
  inSqrt2 := (scaleTable sh).inSqrt2
  midShift := (scaleTable sh).midShift
  outShift := (scaleTable sh).outShift
  order := passOrder sh

/-- The record packed into its 32-bit word (R156, R75). -/
def recordWord (r : DispatchRecord) : Nat :=
  kernelId r.rowk ||| (kernelId r.colk <<< 5) ||| (r.inUp <<< 10) ||| (r.inSqrt2.toNat <<< 13)
    ||| (r.midShift <<< 14) ||| (r.outShift <<< 17) ||| ((if r.order = .colsFirst then 1 else 0) <<< 20)

/-- The 304 record words as rules R160 to R178 list them, type 0 first. -/
def dispatchRom : Shape → List Nat
  | .s4x4 =>
    [0x00041000, 0x00041100, 0x00041008, 0x00041108, 0x00041100, 0x00041008, 0x00041108, 0x00041108,
     0x00041108, 0x00041210, 0x00041010, 0x00041200, 0x00041110, 0x00041208, 0x00041110, 0x00041208]
  | .s8x8 =>
    [0x00020821, 0x00020921, 0x00020829, 0x00020929, 0x00020921, 0x00020829, 0x00020929, 0x00020929,
     0x00020929, 0x00020A31, 0x00020831, 0x00020A21, 0x00020931, 0x00020A29, 0x00020931, 0x00020A29]
  | .s16x16 =>
    [0x00008842, 0x00008942, 0x0000884A, 0x0000894A, 0x00008942, 0x0000884A, 0x0000894A, 0x0000894A,
     0x0000894A, 0x00008A52, 0x00008852, 0x00008A42, 0x00008952, 0x00008A4A, 0x00008952, 0x00008A4A]
  | .s32x32 =>
    [0x00010863, 0x00010963, 0x0001086B, 0x0001096B, 0x00010963, 0x0001086B, 0x0001096B, 0x0001096B,
     0x0001096B, 0x00010A73, 0x00010873, 0x00010A63, 0x00010973, 0x00010A6B, 0x00010973, 0x00010A6B]
  | .s64x64 =>
    [0x00048084, 0x00048184, 0x0004808C, 0x0004818C, 0x00048184, 0x0004808C, 0x0004818C, 0x0004818C,
     0x0004818C, 0x00048294, 0x00048094, 0x00048284, 0x00048194, 0x0004828C, 0x00048194, 0x0004828C]
  | .s4x8 =>
    [0x00022820, 0x00022920, 0x00022828, 0x00022928, 0x00022920, 0x00022828, 0x00022928, 0x00022928,
     0x00022928, 0x00022A30, 0x00022830, 0x00022A20, 0x00022930, 0x00022A28, 0x00022930, 0x00022A28]
  | .s8x4 =>
    [0x00122801, 0x00122901, 0x00122809, 0x00122909, 0x00122901, 0x00122809, 0x00122909, 0x00122909,
     0x00122909, 0x00122A11, 0x00122811, 0x00122A01, 0x00122911, 0x00122A09, 0x00122911, 0x00122A09]
  | .s8x16 =>
    [0x0000A841, 0x0000A941, 0x0000A849, 0x0000A949, 0x0000A941, 0x0000A849, 0x0000A949, 0x0000A949,
     0x0000A949, 0x0000AA51, 0x0000A851, 0x0000AA41, 0x0000A951, 0x0000AA49, 0x0000A951, 0x0000AA49]
  | .s16x8 =>
    [0x0010A822, 0x0010A922, 0x0010A82A, 0x0010A92A, 0x0010A922, 0x0010A82A, 0x0010A92A, 0x0010A92A,
     0x0010A92A, 0x0010AA32, 0x0010A832, 0x0010AA22, 0x0010A932, 0x0010AA2A, 0x0010A932, 0x0010AA2A]
  | .s16x32 =>
    [0x00012862, 0x00012962, 0x0001286A, 0x0001296A, 0x00012962, 0x0001286A, 0x0001296A, 0x0001296A,
     0x0001296A, 0x00012A72, 0x00012872, 0x00012A62, 0x00012972, 0x00012A6A, 0x00012972, 0x00012A6A]
  | .s32x16 =>
    [0x00112843, 0x00112943, 0x0011284B, 0x0011294B, 0x00112943, 0x0011284B, 0x0011294B, 0x0011294B,
     0x0011294B, 0x00112A53, 0x00112853, 0x00112A43, 0x00112953, 0x00112A4B, 0x00112953, 0x00112A4B]
  | .s32x64 =>
    [0x00052883, 0x00052983, 0x0005288B, 0x0005298B, 0x00052983, 0x0005288B, 0x0005298B, 0x0005298B,
     0x0005298B, 0x00052A93, 0x00052893, 0x00052A83, 0x00052993, 0x00052A8B, 0x00052993, 0x00052A8B]
  | .s64x32 =>
    [0x00152864, 0x00152964, 0x0015286C, 0x0015296C, 0x00152964, 0x0015286C, 0x0015296C, 0x0015296C,
     0x0015296C, 0x00152A74, 0x00152874, 0x00152A64, 0x00152974, 0x00152A6C, 0x00152974, 0x00152A6C]
  | .s4x16 =>
    [0x00020840, 0x00020940, 0x00020848, 0x00020948, 0x00020940, 0x00020848, 0x00020948, 0x00020948,
     0x00020948, 0x00020A50, 0x00020850, 0x00020A40, 0x00020950, 0x00020A48, 0x00020950, 0x00020A48]
  | .s16x4 =>
    [0x00120802, 0x00120902, 0x0012080A, 0x0012090A, 0x00120902, 0x0012080A, 0x0012090A, 0x0012090A,
     0x0012090A, 0x00120A12, 0x00120812, 0x00120A02, 0x00120912, 0x00120A0A, 0x00120912, 0x00120A0A]
  | .s8x32 =>
    [0x00008861, 0x00008961, 0x00008869, 0x00008969, 0x00008961, 0x00008869, 0x00008969, 0x00008969,
     0x00008969, 0x00008A71, 0x00008871, 0x00008A61, 0x00008971, 0x00008A69, 0x00008971, 0x00008A69]
  | .s32x8 =>
    [0x00108823, 0x00108923, 0x0010882B, 0x0010892B, 0x00108923, 0x0010882B, 0x0010892B, 0x0010892B,
     0x0010892B, 0x00108A33, 0x00108833, 0x00108A23, 0x00108933, 0x00108A2B, 0x00108933, 0x00108A2B]
  | .s16x64 =>
    [0x00010882, 0x00010982, 0x0001088A, 0x0001098A, 0x00010982, 0x0001088A, 0x0001098A, 0x0001098A,
     0x0001098A, 0x00010A92, 0x00010892, 0x00010A82, 0x00010992, 0x00010A8A, 0x00010992, 0x00010A8A]
  | .s64x16 =>
    [0x00110844, 0x00110944, 0x0011084C, 0x0011094C, 0x00110944, 0x0011084C, 0x0011094C, 0x0011094C,
     0x0011094C, 0x00110A54, 0x00110854, 0x00110A44, 0x00110954, 0x00110A4C, 0x00110954, 0x00110A4C]

end Sys2Proof.Machine
end

