-- ==== Sys2Proof/Machine/Adst.lean ====
section
/-! DEFINITION. Machine/Adst.lean: the ADST kernels (spec/43_adst_kernels.md R120 to R122). The working values `s<i>`, `y<i>` are exact integers
until `RS14` narrows them (R102; log entry 15). -/

namespace Sys2Proof.Machine

/-- `FADST4` (R120), the all-zero fast path included. -/
def fadst4 (v : List Lane) : Calc (List Lane) :=
  if lane v 0 = 0 ∧ lane v 1 = 0 ∧ lane v 2 = 0 ∧ lane v 3 = 0 then pure [0, 0, 0, 0]
  else do
    let x0 := (lane v 0).toInt
    let x1 := (lane v 1).toInt
    let x2 := (lane v 2).toInt
    let x3 := (lane v 3).toInt
    let s0 := sinpi1 * x0
    let s1 := sinpi4 * x0
    let s2 := sinpi2 * x1
    let s3 := sinpi1 * x1
    let s4 := sinpi3 * x2
    let s5 := sinpi4 * x3
    let s6 := sinpi2 * x3
    let s7 := x0 + x1 - x3
    let y0 := s0 + s2 + s5
    let y1 := sinpi3 * s7
    let y2 := s1 - s3 + s6
    let y3 := s4
    let o0 ← rs14 (y0 + y3)
    let o1 ← rs14 y1
    let o2 ← rs14 (y2 - y3)
    let o3 ← rs14 (y2 - y0 + y3)
    pure [o0, o1, o2, o3]

/-- The pair of products `(c * a + d * b, d * a - c * b)` of two lanes (R121, R122: one rotation before its rounding). -/
def turn (c : Int) (a : Lane) (d : Int) (b : Lane) : Int × Int :=
  (c * a.toInt + d * b.toInt, d * a.toInt - c * b.toInt)

/-- The pair of products `(-c * a + d * b, d * a + c * b)` of two lanes (R121, R122). -/
def turnBack (c : Int) (a : Lane) (d : Int) (b : Lane) : Int × Int :=
  (-c * a.toInt + d * b.toInt, d * a.toInt + c * b.toInt)

/-- `FADST8` (R121). -/
def fadst8 (v : List Lane) : Calc (List Lane) := do
  -- stage 1, after the input permutation
  let (s0, s1) := turn (cospi 4) (lane v 7) (cospi 60) (lane v 0)
  let (s2, s3) := turn (cospi 20) (lane v 5) (cospi 44) (lane v 2)
  let (s4, s5) := turn (cospi 36) (lane v 3) (cospi 28) (lane v 4)
  let (s6, s7) := turn (cospi 52) (lane v 1) (cospi 12) (lane v 6)
  let x0 ← rs14 (s0 + s4)
  let x1 ← rs14 (s1 + s5)
  let x2 ← rs14 (s2 + s6)
  let x3 ← rs14 (s3 + s7)
  let x4 ← rs14 (s0 - s4)
  let x5 ← rs14 (s1 - s5)
  let x6 ← rs14 (s2 - s6)
  let x7 ← rs14 (s3 - s7)
  -- stage 2
  let (s4, s5) := turn (cospi 16) x4 (cospi 48) x5
  let (s6, s7) := turnBack (cospi 48) x6 (cospi 16) x7
  let t0 ← add x0 x2
  let t1 ← add x1 x3
  let t2 ← sub x0 x2
  let t3 ← sub x1 x3
  let t4 ← rs14 (s4 + s6)
  let t5 ← rs14 (s5 + s7)
  let t6 ← rs14 (s4 - s6)
  let t7 ← rs14 (s5 - s7)
  -- stage 3
  let u2 ← rs14 (cospi 32 * (t2.toInt + t3.toInt))
  let u3 ← rs14 (cospi 32 * (t2.toInt - t3.toInt))
  let u6 ← rs14 (cospi 32 * (t6.toInt + t7.toInt))
  let u7 ← rs14 (cospi 32 * (t6.toInt - t7.toInt))
  -- output permutation and signs
  let n1 ← neg t4
  let n3 ← neg u2
  let n5 ← neg u7
  let n7 ← neg t1
  pure [t0, n1, u6, n3, u3, n5, t5, n7]

/-- `FADST16` (R122). -/
def fadst16 (v : List Lane) : Calc (List Lane) := do
  -- stage 1, after the input permutation
  let (s0, s1) := turn (cospi 2) (lane v 15) (cospi 62) (lane v 0)
  let (s2, s3) := turn (cospi 10) (lane v 13) (cospi 54) (lane v 2)
  let (s4, s5) := turn (cospi 18) (lane v 11) (cospi 46) (lane v 4)
  let (s6, s7) := turn (cospi 26) (lane v 9) (cospi 38) (lane v 6)
  let (s8, s9) := turn (cospi 34) (lane v 7) (cospi 30) (lane v 8)
  let (s10, s11) := turn (cospi 42) (lane v 5) (cospi 22) (lane v 10)
  let (s12, s13) := turn (cospi 50) (lane v 3) (cospi 14) (lane v 12)
  let (s14, s15) := turn (cospi 58) (lane v 1) (cospi 6) (lane v 14)
  let x0 ← rs14 (s0 + s8)
  let x1 ← rs14 (s1 + s9)
  let x2 ← rs14 (s2 + s10)
  let x3 ← rs14 (s3 + s11)
  let x4 ← rs14 (s4 + s12)
  let x5 ← rs14 (s5 + s13)
  let x6 ← rs14 (s6 + s14)
  let x7 ← rs14 (s7 + s15)
  let x8 ← rs14 (s0 - s8)
  let x9 ← rs14 (s1 - s9)
  let x10 ← rs14 (s2 - s10)
  let x11 ← rs14 (s3 - s11)
  let x12 ← rs14 (s4 - s12)
  let x13 ← rs14 (s5 - s13)
  let x14 ← rs14 (s6 - s14)
  let x15 ← rs14 (s7 - s15)
  -- stage 2
  let (s8, s9) := turn (cospi 8) x8 (cospi 56) x9
  let (s10, s11) := turn (cospi 40) x10 (cospi 24) x11
  let (s12, s13) := turnBack (cospi 56) x12 (cospi 8) x13
  let (s14, s15) := turnBack (cospi 24) x14 (cospi 40) x15
  let t0 ← add x0 x4
  let t1 ← add x1 x5
  let t2 ← add x2 x6
  let t3 ← add x3 x7
  let t4 ← sub x0 x4
  let t5 ← sub x1 x5
  let t6 ← sub x2 x6
  let t7 ← sub x3 x7
  let t8 ← rs14 (s8 + s12)
  let t9 ← rs14 (s9 + s13)
  let t10 ← rs14 (s10 + s14)
  let t11 ← rs14 (s11 + s15)
  let t12 ← rs14 (s8 - s12)
  let t13 ← rs14 (s9 - s13)
  let t14 ← rs14 (s10 - s14)
  let t15 ← rs14 (s11 - s15)
  -- stage 3
  let (s4, s5) := turn (cospi 16) t4 (cospi 48) t5
  let (s6, s7) := turnBack (cospi 48) t6 (cospi 16) t7
  let (s12, s13) := turn (cospi 16) t12 (cospi 48) t13
  let (s14, s15) := turnBack (cospi 48) t14 (cospi 16) t15
  let u0 ← add t0 t2
  let u1 ← add t1 t3
  let u2 ← sub t0 t2
  let u3 ← sub t1 t3
  let u4 ← rs14 (s4 + s6)
  let u5 ← rs14 (s5 + s7)
  let u6 ← rs14 (s4 - s6)
  let u7 ← rs14 (s5 - s7)
  let u8 ← add t8 t10
  let u9 ← add t9 t11
  let u10 ← sub t8 t10
  let u11 ← sub t9 t11
  let u12 ← rs14 (s12 + s14)
  let u13 ← rs14 (s13 + s15)
  let u14 ← rs14 (s12 - s14)
  let u15 ← rs14 (s13 - s15)
  -- stage 4
  let v2 ← rs14 (-cospi 32 * (u2.toInt + u3.toInt))
  let v3 ← rs14 (cospi 32 * (u2.toInt - u3.toInt))
  let v6 ← rs14 (cospi 32 * (u6.toInt + u7.toInt))
  let v7 ← rs14 (cospi 32 * (-u6.toInt + u7.toInt))
  let v10 ← rs14 (cospi 32 * (u10.toInt + u11.toInt))
  let v11 ← rs14 (cospi 32 * (-u10.toInt + u11.toInt))
  let v14 ← rs14 (-cospi 32 * (u14.toInt + u15.toInt))
  let v15 ← rs14 (cospi 32 * (u14.toInt - u15.toInt))
  -- output permutation and signs
  let n1 ← neg u8
  let n3 ← neg u4
  let n13 ← neg u13
  let n15 ← neg u1
  pure [u0, n1, u12, n3, v6, v14, v10, v2, v3, v11, v15, v7, u5, n13, u9, n15]

end Sys2Proof.Machine
end

