-- ==== Sys2Proof/Machine/Networks.lean ====
section
/-! DEFINITION. Machine/Networks.lean: the DCT butterfly networks, lane for lane as the listings of spec/41_dct_kernels.md R106 to R108 and
spec/42_dct_kernels_large.md R115, R116 give them. A stage lists what each lane of `b<s>` is made of from the lanes of `b<s-1>`. -/

namespace Sys2Proof.Machine

/-- A weight of a rotation: `COSPI[k]` or `-COSPI[k]` (40_primitives.md R96). -/
inductive Weight where
  | pos (k : Nat)
  | neg (k : Nat)
deriving DecidableEq, Repr

/-- One lane of a stage (R105): a copy, `ADD`, `SUB` or `ROT(w0, in[i], w1, in[j])`. -/
inductive LaneOp where
  | copy (i : Nat)
  | add (i j : Nat)
  | sub (i j : Nat)
  | rot (w0 : Weight) (i : Nat) (w1 : Weight) (j : Nat)
deriving DecidableEq, Repr

/-- Stage 1 of FDCT4 (R106). -/
def fdct4Stage1 : List LaneOp :=
  [.add 0 3, .add 1 2, .sub 1 2, .sub 0 3]

/-- Stage 2 of FDCT4 (R106). -/
def fdct4Stage2 : List LaneOp :=
  [.rot (.pos 32) 0 (.pos 32) 1, .rot (.neg 32) 1 (.pos 32) 0, .rot (.pos 48) 2 (.pos 16) 3, .rot (.pos 48) 3 (.neg 16) 2]

/-- Stage 3 of FDCT4 (R106). -/
def fdct4Stage3 : List LaneOp :=
  [.copy 0, .copy 2, .copy 1, .copy 3]

/-- `FDCT4` (R106). -/
def fdct4Net : List (List LaneOp) :=
  [fdct4Stage1, fdct4Stage2, fdct4Stage3]

/-- Stage 1 of FDCT8 (R107). -/
def fdct8Stage1 : List LaneOp :=
  [.add 0 7, .add 1 6, .add 2 5, .add 3 4,
   .sub 3 4, .sub 2 5, .sub 1 6, .sub 0 7]

/-- Stage 2 of FDCT8 (R107). -/
def fdct8Stage2 : List LaneOp :=
  [.add 0 3, .add 1 2, .sub 1 2, .sub 0 3,
   .copy 4, .rot (.neg 32) 5 (.pos 32) 6, .rot (.pos 32) 6 (.pos 32) 5, .copy 7]

/-- Stage 3 of FDCT8 (R107). -/
def fdct8Stage3 : List LaneOp :=
  [.rot (.pos 32) 0 (.pos 32) 1, .rot (.neg 32) 1 (.pos 32) 0, .rot (.pos 48) 2 (.pos 16) 3, .rot (.pos 48) 3 (.neg 16) 2,
   .add 4 5, .sub 4 5, .sub 7 6, .add 7 6]

/-- Stage 4 of FDCT8 (R107). -/
def fdct8Stage4 : List LaneOp :=
  [.copy 0, .copy 1, .copy 2, .copy 3,
   .rot (.pos 56) 4 (.pos 8) 7, .rot (.pos 24) 5 (.pos 40) 6, .rot (.pos 24) 6 (.neg 40) 5, .rot (.pos 56) 7 (.neg 8) 4]

/-- Stage 5 of FDCT8 (R107). -/
def fdct8Stage5 : List LaneOp :=
  [.copy 0, .copy 4, .copy 2, .copy 6,
   .copy 1, .copy 5, .copy 3, .copy 7]

/-- `FDCT8` (R107). -/
def fdct8Net : List (List LaneOp) :=
  [fdct8Stage1, fdct8Stage2, fdct8Stage3, fdct8Stage4, fdct8Stage5]

/-- Stage 1 of FDCT16 (R108). -/
def fdct16Stage1 : List LaneOp :=
  [.add 0 15, .add 1 14, .add 2 13, .add 3 12,
   .add 4 11, .add 5 10, .add 6 9, .add 7 8,
   .sub 7 8, .sub 6 9, .sub 5 10, .sub 4 11,
   .sub 3 12, .sub 2 13, .sub 1 14, .sub 0 15]

/-- Stage 2 of FDCT16 (R108). -/
def fdct16Stage2 : List LaneOp :=
  [.add 0 7, .add 1 6, .add 2 5, .add 3 4,
   .sub 3 4, .sub 2 5, .sub 1 6, .sub 0 7,
   .copy 8, .copy 9, .rot (.neg 32) 10 (.pos 32) 13, .rot (.neg 32) 11 (.pos 32) 12,
   .rot (.pos 32) 12 (.pos 32) 11, .rot (.pos 32) 13 (.pos 32) 10, .copy 14, .copy 15]

/-- Stage 3 of FDCT16 (R108). -/
def fdct16Stage3 : List LaneOp :=
  [.add 0 3, .add 1 2, .sub 1 2, .sub 0 3,
   .copy 4, .rot (.neg 32) 5 (.pos 32) 6, .rot (.pos 32) 6 (.pos 32) 5, .copy 7,
   .add 8 11, .add 9 10, .sub 9 10, .sub 8 11,
   .sub 15 12, .sub 14 13, .add 14 13, .add 15 12]

/-- Stage 4 of FDCT16 (R108). -/
def fdct16Stage4 : List LaneOp :=
  [.rot (.pos 32) 0 (.pos 32) 1, .rot (.neg 32) 1 (.pos 32) 0, .rot (.pos 48) 2 (.pos 16) 3, .rot (.pos 48) 3 (.neg 16) 2,
   .add 4 5, .sub 4 5, .sub 7 6, .add 7 6,
   .copy 8, .rot (.neg 16) 9 (.pos 48) 14, .rot (.neg 48) 10 (.neg 16) 13, .copy 11,
   .copy 12, .rot (.pos 48) 13 (.neg 16) 10, .rot (.pos 16) 14 (.pos 48) 9, .copy 15]

/-- Stage 5 of FDCT16 (R108). -/
def fdct16Stage5 : List LaneOp :=
  [.copy 0, .copy 1, .copy 2, .copy 3,
   .rot (.pos 56) 4 (.pos 8) 7, .rot (.pos 24) 5 (.pos 40) 6, .rot (.pos 24) 6 (.neg 40) 5, .rot (.pos 56) 7 (.neg 8) 4,
   .add 8 9, .sub 8 9, .sub 11 10, .add 11 10,
   .add 12 13, .sub 12 13, .sub 15 14, .add 15 14]

/-- Stage 6 of FDCT16 (R108). -/
def fdct16Stage6 : List LaneOp :=
  [.copy 0, .copy 1, .copy 2, .copy 3,
   .copy 4, .copy 5, .copy 6, .copy 7,
   .rot (.pos 60) 8 (.pos 4) 15, .rot (.pos 28) 9 (.pos 36) 14, .rot (.pos 44) 10 (.pos 20) 13, .rot (.pos 12) 11 (.pos 52) 12,
   .rot (.pos 12) 12 (.neg 52) 11, .rot (.pos 44) 13 (.neg 20) 10, .rot (.pos 28) 14 (.neg 36) 9, .rot (.pos 60) 15 (.neg 4) 8]

/-- Stage 7 of FDCT16 (R108). -/
def fdct16Stage7 : List LaneOp :=
  [.copy 0, .copy 8, .copy 4, .copy 12,
   .copy 2, .copy 10, .copy 6, .copy 14,
   .copy 1, .copy 9, .copy 5, .copy 13,
   .copy 3, .copy 11, .copy 7, .copy 15]

/-- `FDCT16` (R108). -/
def fdct16Net : List (List LaneOp) :=
  [fdct16Stage1, fdct16Stage2, fdct16Stage3, fdct16Stage4, fdct16Stage5, fdct16Stage6, fdct16Stage7]

/-- Stage 1 of FDCT32 (R115). -/
def fdct32Stage1 : List LaneOp :=
  [.add 0 31, .add 1 30, .add 2 29, .add 3 28,
   .add 4 27, .add 5 26, .add 6 25, .add 7 24,
   .add 8 23, .add 9 22, .add 10 21, .add 11 20,
   .add 12 19, .add 13 18, .add 14 17, .add 15 16,
   .sub 15 16, .sub 14 17, .sub 13 18, .sub 12 19,
   .sub 11 20, .sub 10 21, .sub 9 22, .sub 8 23,
   .sub 7 24, .sub 6 25, .sub 5 26, .sub 4 27,
   .sub 3 28, .sub 2 29, .sub 1 30, .sub 0 31]

/-- Stage 2 of FDCT32 (R115). -/
def fdct32Stage2 : List LaneOp :=
  [.add 0 15, .add 1 14, .add 2 13, .add 3 12,
   .add 4 11, .add 5 10, .add 6 9, .add 7 8,
   .sub 7 8, .sub 6 9, .sub 5 10, .sub 4 11,
   .sub 3 12, .sub 2 13, .sub 1 14, .sub 0 15,
   .copy 16, .copy 17, .copy 18, .copy 19,
   .rot (.neg 32) 20 (.pos 32) 27, .rot (.neg 32) 21 (.pos 32) 26, .rot (.neg 32) 22 (.pos 32) 25, .rot (.neg 32) 23 (.pos 32) 24,
   .rot (.pos 32) 24 (.pos 32) 23, .rot (.pos 32) 25 (.pos 32) 22, .rot (.pos 32) 26 (.pos 32) 21, .rot (.pos 32) 27 (.pos 32) 20,
   .copy 28, .copy 29, .copy 30, .copy 31]

/-- Stage 3 of FDCT32 (R115). -/
def fdct32Stage3 : List LaneOp :=
  [.add 0 7, .add 1 6, .add 2 5, .add 3 4,
   .sub 3 4, .sub 2 5, .sub 1 6, .sub 0 7,
   .copy 8, .copy 9, .rot (.neg 32) 10 (.pos 32) 13, .rot (.neg 32) 11 (.pos 32) 12,
   .rot (.pos 32) 12 (.pos 32) 11, .rot (.pos 32) 13 (.pos 32) 10, .copy 14, .copy 15,
   .add 16 23, .add 17 22, .add 18 21, .add 19 20,
   .sub 19 20, .sub 18 21, .sub 17 22, .sub 16 23,
   .sub 31 24, .sub 30 25, .sub 29 26, .sub 28 27,
   .add 28 27, .add 29 26, .add 30 25, .add 31 24]

/-- Stage 4 of FDCT32 (R115). -/
def fdct32Stage4 : List LaneOp :=
  [.add 0 3, .add 1 2, .sub 1 2, .sub 0 3,
   .copy 4, .rot (.neg 32) 5 (.pos 32) 6, .rot (.pos 32) 6 (.pos 32) 5, .copy 7,
   .add 8 11, .add 9 10, .sub 9 10, .sub 8 11,
   .sub 15 12, .sub 14 13, .add 14 13, .add 15 12,
   .copy 16, .copy 17, .rot (.neg 16) 18 (.pos 48) 29, .rot (.neg 16) 19 (.pos 48) 28,
   .rot (.neg 48) 20 (.neg 16) 27, .rot (.neg 48) 21 (.neg 16) 26, .copy 22, .copy 23,
   .copy 24, .copy 25, .rot (.pos 48) 26 (.neg 16) 21, .rot (.pos 48) 27 (.neg 16) 20,
   .rot (.pos 16) 28 (.pos 48) 19, .rot (.pos 16) 29 (.pos 48) 18, .copy 30, .copy 31]

/-- Stage 5 of FDCT32 (R115). -/
def fdct32Stage5 : List LaneOp :=
  [.rot (.pos 32) 0 (.pos 32) 1, .rot (.neg 32) 1 (.pos 32) 0, .rot (.pos 48) 2 (.pos 16) 3, .rot (.pos 48) 3 (.neg 16) 2,
   .add 4 5, .sub 4 5, .sub 7 6, .add 7 6,
   .copy 8, .rot (.neg 16) 9 (.pos 48) 14, .rot (.neg 48) 10 (.neg 16) 13, .copy 11,
   .copy 12, .rot (.pos 48) 13 (.neg 16) 10, .rot (.pos 16) 14 (.pos 48) 9, .copy 15,
   .add 16 19, .add 17 18, .sub 17 18, .sub 16 19,
   .sub 23 20, .sub 22 21, .add 22 21, .add 23 20,
   .add 24 27, .add 25 26, .sub 25 26, .sub 24 27,
   .sub 31 28, .sub 30 29, .add 30 29, .add 31 28]

/-- Stage 6 of FDCT32 (R115). -/
def fdct32Stage6 : List LaneOp :=
  [.copy 0, .copy 1, .copy 2, .copy 3,
   .rot (.pos 56) 4 (.pos 8) 7, .rot (.pos 24) 5 (.pos 40) 6, .rot (.pos 24) 6 (.neg 40) 5, .rot (.pos 56) 7 (.neg 8) 4,
   .add 8 9, .sub 8 9, .sub 11 10, .add 11 10,
   .add 12 13, .sub 12 13, .sub 15 14, .add 15 14,
   .copy 16, .rot (.neg 8) 17 (.pos 56) 30, .rot (.neg 56) 18 (.neg 8) 29, .copy 19,
   .copy 20, .rot (.neg 40) 21 (.pos 24) 26, .rot (.neg 24) 22 (.neg 40) 25, .copy 23,
   .copy 24, .rot (.pos 24) 25 (.neg 40) 22, .rot (.pos 40) 26 (.pos 24) 21, .copy 27,
   .copy 28, .rot (.pos 56) 29 (.neg 8) 18, .rot (.pos 8) 30 (.pos 56) 17, .copy 31]

/-- Stage 7 of FDCT32 (R115). -/
def fdct32Stage7 : List LaneOp :=
  [.copy 0, .copy 1, .copy 2, .copy 3,
   .copy 4, .copy 5, .copy 6, .copy 7,
   .rot (.pos 60) 8 (.pos 4) 15, .rot (.pos 28) 9 (.pos 36) 14, .rot (.pos 44) 10 (.pos 20) 13, .rot (.pos 12) 11 (.pos 52) 12,
   .rot (.pos 12) 12 (.neg 52) 11, .rot (.pos 44) 13 (.neg 20) 10, .rot (.pos 28) 14 (.neg 36) 9, .rot (.pos 60) 15 (.neg 4) 8,
   .add 16 17, .sub 16 17, .sub 19 18, .add 19 18,
   .add 20 21, .sub 20 21, .sub 23 22, .add 23 22,
   .add 24 25, .sub 24 25, .sub 27 26, .add 27 26,
   .add 28 29, .sub 28 29, .sub 31 30, .add 31 30]

/-- Stage 8 of FDCT32 (R115). -/
def fdct32Stage8 : List LaneOp :=
  [.copy 0, .copy 1, .copy 2, .copy 3,
   .copy 4, .copy 5, .copy 6, .copy 7,
   .copy 8, .copy 9, .copy 10, .copy 11,
   .copy 12, .copy 13, .copy 14, .copy 15,
   .rot (.pos 62) 16 (.pos 2) 31, .rot (.pos 30) 17 (.pos 34) 30, .rot (.pos 46) 18 (.pos 18) 29, .rot (.pos 14) 19 (.pos 50) 28,
   .rot (.pos 54) 20 (.pos 10) 27, .rot (.pos 22) 21 (.pos 42) 26, .rot (.pos 38) 22 (.pos 26) 25, .rot (.pos 6) 23 (.pos 58) 24,
   .rot (.pos 6) 24 (.neg 58) 23, .rot (.pos 38) 25 (.neg 26) 22, .rot (.pos 22) 26 (.neg 42) 21, .rot (.pos 54) 27 (.neg 10) 20,
   .rot (.pos 14) 28 (.neg 50) 19, .rot (.pos 46) 29 (.neg 18) 18, .rot (.pos 30) 30 (.neg 34) 17, .rot (.pos 62) 31 (.neg 2) 16]

/-- Stage 9 of FDCT32 (R115). -/
def fdct32Stage9 : List LaneOp :=
  [.copy 0, .copy 16, .copy 8, .copy 24,
   .copy 4, .copy 20, .copy 12, .copy 28,
   .copy 2, .copy 18, .copy 10, .copy 26,
   .copy 6, .copy 22, .copy 14, .copy 30,
   .copy 1, .copy 17, .copy 9, .copy 25,
   .copy 5, .copy 21, .copy 13, .copy 29,
   .copy 3, .copy 19, .copy 11, .copy 27,
   .copy 7, .copy 23, .copy 15, .copy 31]

/-- `FDCT32` (R115). -/
def fdct32Net : List (List LaneOp) :=
  [fdct32Stage1, fdct32Stage2, fdct32Stage3, fdct32Stage4, fdct32Stage5, fdct32Stage6, fdct32Stage7, fdct32Stage8, fdct32Stage9]

/-- Stage 1 of FDCT64 (R116). -/
def fdct64Stage1 : List LaneOp :=
  List.append
    [.add 0 63, .add 1 62, .add 2 61, .add 3 60,
     .add 4 59, .add 5 58, .add 6 57, .add 7 56,
     .add 8 55, .add 9 54, .add 10 53, .add 11 52,
     .add 12 51, .add 13 50, .add 14 49, .add 15 48,
     .add 16 47, .add 17 46, .add 18 45, .add 19 44,
     .add 20 43, .add 21 42, .add 22 41, .add 23 40,
     .add 24 39, .add 25 38, .add 26 37, .add 27 36,
     .add 28 35, .add 29 34, .add 30 33, .add 31 32]
    [.sub 31 32, .sub 30 33, .sub 29 34, .sub 28 35,
     .sub 27 36, .sub 26 37, .sub 25 38, .sub 24 39,
     .sub 23 40, .sub 22 41, .sub 21 42, .sub 20 43,
     .sub 19 44, .sub 18 45, .sub 17 46, .sub 16 47,
     .sub 15 48, .sub 14 49, .sub 13 50, .sub 12 51,
     .sub 11 52, .sub 10 53, .sub 9 54, .sub 8 55,
     .sub 7 56, .sub 6 57, .sub 5 58, .sub 4 59,
     .sub 3 60, .sub 2 61, .sub 1 62, .sub 0 63]

/-- Stage 2 of FDCT64 (R116). -/
def fdct64Stage2 : List LaneOp :=
  List.append
    [.add 0 31, .add 1 30, .add 2 29, .add 3 28,
     .add 4 27, .add 5 26, .add 6 25, .add 7 24,
     .add 8 23, .add 9 22, .add 10 21, .add 11 20,
     .add 12 19, .add 13 18, .add 14 17, .add 15 16,
     .sub 15 16, .sub 14 17, .sub 13 18, .sub 12 19,
     .sub 11 20, .sub 10 21, .sub 9 22, .sub 8 23,
     .sub 7 24, .sub 6 25, .sub 5 26, .sub 4 27,
     .sub 3 28, .sub 2 29, .sub 1 30, .sub 0 31]
    [.copy 32, .copy 33, .copy 34, .copy 35,
     .copy 36, .copy 37, .copy 38, .copy 39,
     .rot (.neg 32) 40 (.pos 32) 55, .rot (.neg 32) 41 (.pos 32) 54, .rot (.neg 32) 42 (.pos 32) 53, .rot (.neg 32) 43 (.pos 32) 52,
     .rot (.neg 32) 44 (.pos 32) 51, .rot (.neg 32) 45 (.pos 32) 50, .rot (.neg 32) 46 (.pos 32) 49, .rot (.neg 32) 47 (.pos 32) 48,
     .rot (.pos 32) 48 (.pos 32) 47, .rot (.pos 32) 49 (.pos 32) 46, .rot (.pos 32) 50 (.pos 32) 45, .rot (.pos 32) 51 (.pos 32) 44,
     .rot (.pos 32) 52 (.pos 32) 43, .rot (.pos 32) 53 (.pos 32) 42, .rot (.pos 32) 54 (.pos 32) 41, .rot (.pos 32) 55 (.pos 32) 40,
     .copy 56, .copy 57, .copy 58, .copy 59,
     .copy 60, .copy 61, .copy 62, .copy 63]

/-- Stage 3 of FDCT64 (R116). -/
def fdct64Stage3 : List LaneOp :=
  List.append
    [.add 0 15, .add 1 14, .add 2 13, .add 3 12,
     .add 4 11, .add 5 10, .add 6 9, .add 7 8,
     .sub 7 8, .sub 6 9, .sub 5 10, .sub 4 11,
     .sub 3 12, .sub 2 13, .sub 1 14, .sub 0 15,
     .copy 16, .copy 17, .copy 18, .copy 19,
     .rot (.neg 32) 20 (.pos 32) 27, .rot (.neg 32) 21 (.pos 32) 26, .rot (.neg 32) 22 (.pos 32) 25, .rot (.neg 32) 23 (.pos 32) 24,
     .rot (.pos 32) 24 (.pos 32) 23, .rot (.pos 32) 25 (.pos 32) 22, .rot (.pos 32) 26 (.pos 32) 21, .rot (.pos 32) 27 (.pos 32) 20,
     .copy 28, .copy 29, .copy 30, .copy 31]
    [.add 32 47, .add 33 46, .add 34 45, .add 35 44,
     .add 36 43, .add 37 42, .add 38 41, .add 39 40,
     .sub 39 40, .sub 38 41, .sub 37 42, .sub 36 43,
     .sub 35 44, .sub 34 45, .sub 33 46, .sub 32 47,
     .sub 63 48, .sub 62 49, .sub 61 50, .sub 60 51,
     .sub 59 52, .sub 58 53, .sub 57 54, .sub 56 55,
     .add 56 55, .add 57 54, .add 58 53, .add 59 52,
     .add 60 51, .add 61 50, .add 62 49, .add 63 48]

/-- Stage 4 of FDCT64 (R116). -/
def fdct64Stage4 : List LaneOp :=
  List.append
    [.add 0 7, .add 1 6, .add 2 5, .add 3 4,
     .sub 3 4, .sub 2 5, .sub 1 6, .sub 0 7,
     .copy 8, .copy 9, .rot (.neg 32) 10 (.pos 32) 13, .rot (.neg 32) 11 (.pos 32) 12,
     .rot (.pos 32) 12 (.pos 32) 11, .rot (.pos 32) 13 (.pos 32) 10, .copy 14, .copy 15,
     .add 16 23, .add 17 22, .add 18 21, .add 19 20,
     .sub 19 20, .sub 18 21, .sub 17 22, .sub 16 23,
     .sub 31 24, .sub 30 25, .sub 29 26, .sub 28 27,
     .add 28 27, .add 29 26, .add 30 25, .add 31 24]
    [.copy 32, .copy 33, .copy 34, .copy 35,
     .rot (.neg 16) 36 (.pos 48) 59, .rot (.neg 16) 37 (.pos 48) 58, .rot (.neg 16) 38 (.pos 48) 57, .rot (.neg 16) 39 (.pos 48) 56,
     .rot (.neg 48) 40 (.neg 16) 55, .rot (.neg 48) 41 (.neg 16) 54, .rot (.neg 48) 42 (.neg 16) 53, .rot (.neg 48) 43 (.neg 16) 52,
     .copy 44, .copy 45, .copy 46, .copy 47,
     .copy 48, .copy 49, .copy 50, .copy 51,
     .rot (.pos 48) 52 (.neg 16) 43, .rot (.pos 48) 53 (.neg 16) 42, .rot (.pos 48) 54 (.neg 16) 41, .rot (.pos 48) 55 (.neg 16) 40,
     .rot (.pos 16) 56 (.pos 48) 39, .rot (.pos 16) 57 (.pos 48) 38, .rot (.pos 16) 58 (.pos 48) 37, .rot (.pos 16) 59 (.pos 48) 36,
     .copy 60, .copy 61, .copy 62, .copy 63]

/-- Stage 5 of FDCT64 (R116). -/
def fdct64Stage5 : List LaneOp :=
  List.append
    [.add 0 3, .add 1 2, .sub 1 2, .sub 0 3,
     .copy 4, .rot (.neg 32) 5 (.pos 32) 6, .rot (.pos 32) 6 (.pos 32) 5, .copy 7,
     .add 8 11, .add 9 10, .sub 9 10, .sub 8 11,
     .sub 15 12, .sub 14 13, .add 14 13, .add 15 12,
     .copy 16, .copy 17, .rot (.neg 16) 18 (.pos 48) 29, .rot (.neg 16) 19 (.pos 48) 28,
     .rot (.neg 48) 20 (.neg 16) 27, .rot (.neg 48) 21 (.neg 16) 26, .copy 22, .copy 23,
     .copy 24, .copy 25, .rot (.pos 48) 26 (.neg 16) 21, .rot (.pos 48) 27 (.neg 16) 20,
     .rot (.pos 16) 28 (.pos 48) 19, .rot (.pos 16) 29 (.pos 48) 18, .copy 30, .copy 31]
    [.add 32 39, .add 33 38, .add 34 37, .add 35 36,
     .sub 35 36, .sub 34 37, .sub 33 38, .sub 32 39,
     .sub 47 40, .sub 46 41, .sub 45 42, .sub 44 43,
     .add 44 43, .add 45 42, .add 46 41, .add 47 40,
     .add 48 55, .add 49 54, .add 50 53, .add 51 52,
     .sub 51 52, .sub 50 53, .sub 49 54, .sub 48 55,
     .sub 63 56, .sub 62 57, .sub 61 58, .sub 60 59,
     .add 60 59, .add 61 58, .add 62 57, .add 63 56]

/-- Stage 6 of FDCT64 (R116). -/
def fdct64Stage6 : List LaneOp :=
  List.append
    [.rot (.pos 32) 0 (.pos 32) 1, .rot (.neg 32) 1 (.pos 32) 0, .rot (.pos 48) 2 (.pos 16) 3, .rot (.pos 48) 3 (.neg 16) 2,
     .add 4 5, .sub 4 5, .sub 7 6, .add 7 6,
     .copy 8, .rot (.neg 16) 9 (.pos 48) 14, .rot (.neg 48) 10 (.neg 16) 13, .copy 11,
     .copy 12, .rot (.pos 48) 13 (.neg 16) 10, .rot (.pos 16) 14 (.pos 48) 9, .copy 15,
     .add 16 19, .add 17 18, .sub 17 18, .sub 16 19,
     .sub 23 20, .sub 22 21, .add 22 21, .add 23 20,
     .add 24 27, .add 25 26, .sub 25 26, .sub 24 27,
     .sub 31 28, .sub 30 29, .add 30 29, .add 31 28]
    [.copy 32, .copy 33, .rot (.neg 8) 34 (.pos 56) 61, .rot (.neg 8) 35 (.pos 56) 60,
     .rot (.neg 56) 36 (.neg 8) 59, .rot (.neg 56) 37 (.neg 8) 58, .copy 38, .copy 39,
     .copy 40, .copy 41, .rot (.neg 40) 42 (.pos 24) 53, .rot (.neg 40) 43 (.pos 24) 52,
     .rot (.neg 24) 44 (.neg 40) 51, .rot (.neg 24) 45 (.neg 40) 50, .copy 46, .copy 47,
     .copy 48, .copy 49, .rot (.pos 24) 50 (.neg 40) 45, .rot (.pos 24) 51 (.neg 40) 44,
     .rot (.pos 40) 52 (.pos 24) 43, .rot (.pos 40) 53 (.pos 24) 42, .copy 54, .copy 55,
     .copy 56, .copy 57, .rot (.pos 56) 58 (.neg 8) 37, .rot (.pos 56) 59 (.neg 8) 36,
     .rot (.pos 8) 60 (.pos 56) 35, .rot (.pos 8) 61 (.pos 56) 34, .copy 62, .copy 63]

/-- Stage 7 of FDCT64 (R116). -/
def fdct64Stage7 : List LaneOp :=
  List.append
    [.copy 0, .copy 1, .copy 2, .copy 3,
     .rot (.pos 56) 4 (.pos 8) 7, .rot (.pos 24) 5 (.pos 40) 6, .rot (.pos 24) 6 (.neg 40) 5, .rot (.pos 56) 7 (.neg 8) 4,
     .add 8 9, .sub 8 9, .sub 11 10, .add 11 10,
     .add 12 13, .sub 12 13, .sub 15 14, .add 15 14,
     .copy 16, .rot (.neg 8) 17 (.pos 56) 30, .rot (.neg 56) 18 (.neg 8) 29, .copy 19,
     .copy 20, .rot (.neg 40) 21 (.pos 24) 26, .rot (.neg 24) 22 (.neg 40) 25, .copy 23,
     .copy 24, .rot (.pos 24) 25 (.neg 40) 22, .rot (.pos 40) 26 (.pos 24) 21, .copy 27,
     .copy 28, .rot (.pos 56) 29 (.neg 8) 18, .rot (.pos 8) 30 (.pos 56) 17, .copy 31]
    [.add 32 35, .add 33 34, .sub 33 34, .sub 32 35,
     .sub 39 36, .sub 38 37, .add 38 37, .add 39 36,
     .add 40 43, .add 41 42, .sub 41 42, .sub 40 43,
     .sub 47 44, .sub 46 45, .add 46 45, .add 47 44,
     .add 48 51, .add 49 50, .sub 49 50, .sub 48 51,
     .sub 55 52, .sub 54 53, .add 54 53, .add 55 52,
     .add 56 59, .add 57 58, .sub 57 58, .sub 56 59,
     .sub 63 60, .sub 62 61, .add 62 61, .add 63 60]

/-- Stage 8 of FDCT64 (R116). -/
def fdct64Stage8 : List LaneOp :=
  List.append
    [.copy 0, .copy 1, .copy 2, .copy 3,
     .copy 4, .copy 5, .copy 6, .copy 7,
     .rot (.pos 60) 8 (.pos 4) 15, .rot (.pos 28) 9 (.pos 36) 14, .rot (.pos 44) 10 (.pos 20) 13, .rot (.pos 12) 11 (.pos 52) 12,
     .rot (.pos 12) 12 (.neg 52) 11, .rot (.pos 44) 13 (.neg 20) 10, .rot (.pos 28) 14 (.neg 36) 9, .rot (.pos 60) 15 (.neg 4) 8,
     .add 16 17, .sub 16 17, .sub 19 18, .add 19 18,
     .add 20 21, .sub 20 21, .sub 23 22, .add 23 22,
     .add 24 25, .sub 24 25, .sub 27 26, .add 27 26,
     .add 28 29, .sub 28 29, .sub 31 30, .add 31 30]
    [.copy 32, .rot (.neg 4) 33 (.pos 60) 62, .rot (.neg 60) 34 (.neg 4) 61, .copy 35,
     .copy 36, .rot (.neg 36) 37 (.pos 28) 58, .rot (.neg 28) 38 (.neg 36) 57, .copy 39,
     .copy 40, .rot (.neg 20) 41 (.pos 44) 54, .rot (.neg 44) 42 (.neg 20) 53, .copy 43,
     .copy 44, .rot (.neg 52) 45 (.pos 12) 50, .rot (.neg 12) 46 (.neg 52) 49, .copy 47,
     .copy 48, .rot (.pos 12) 49 (.neg 52) 46, .rot (.pos 52) 50 (.pos 12) 45, .copy 51,
     .copy 52, .rot (.pos 44) 53 (.neg 20) 42, .rot (.pos 20) 54 (.pos 44) 41, .copy 55,
     .copy 56, .rot (.pos 28) 57 (.neg 36) 38, .rot (.pos 36) 58 (.pos 28) 37, .copy 59,
     .copy 60, .rot (.pos 60) 61 (.neg 4) 34, .rot (.pos 4) 62 (.pos 60) 33, .copy 63]

/-- Stage 9 of FDCT64 (R116). -/
def fdct64Stage9 : List LaneOp :=
  List.append
    [.copy 0, .copy 1, .copy 2, .copy 3,
     .copy 4, .copy 5, .copy 6, .copy 7,
     .copy 8, .copy 9, .copy 10, .copy 11,
     .copy 12, .copy 13, .copy 14, .copy 15,
     .rot (.pos 62) 16 (.pos 2) 31, .rot (.pos 30) 17 (.pos 34) 30, .rot (.pos 46) 18 (.pos 18) 29, .rot (.pos 14) 19 (.pos 50) 28,
     .rot (.pos 54) 20 (.pos 10) 27, .rot (.pos 22) 21 (.pos 42) 26, .rot (.pos 38) 22 (.pos 26) 25, .rot (.pos 6) 23 (.pos 58) 24,
     .rot (.pos 6) 24 (.neg 58) 23, .rot (.pos 38) 25 (.neg 26) 22, .rot (.pos 22) 26 (.neg 42) 21, .rot (.pos 54) 27 (.neg 10) 20,
     .rot (.pos 14) 28 (.neg 50) 19, .rot (.pos 46) 29 (.neg 18) 18, .rot (.pos 30) 30 (.neg 34) 17, .rot (.pos 62) 31 (.neg 2) 16]
    [.add 32 33, .sub 32 33, .sub 35 34, .add 35 34,
     .add 36 37, .sub 36 37, .sub 39 38, .add 39 38,
     .add 40 41, .sub 40 41, .sub 43 42, .add 43 42,
     .add 44 45, .sub 44 45, .sub 47 46, .add 47 46,
     .add 48 49, .sub 48 49, .sub 51 50, .add 51 50,
     .add 52 53, .sub 52 53, .sub 55 54, .add 55 54,
     .add 56 57, .sub 56 57, .sub 59 58, .add 59 58,
     .add 60 61, .sub 60 61, .sub 63 62, .add 63 62]

/-- Stage 10 of FDCT64 (R116). -/
def fdct64Stage10 : List LaneOp :=
  List.append
    [.copy 0, .copy 1, .copy 2, .copy 3,
     .copy 4, .copy 5, .copy 6, .copy 7,
     .copy 8, .copy 9, .copy 10, .copy 11,
     .copy 12, .copy 13, .copy 14, .copy 15,
     .copy 16, .copy 17, .copy 18, .copy 19,
     .copy 20, .copy 21, .copy 22, .copy 23,
     .copy 24, .copy 25, .copy 26, .copy 27,
     .copy 28, .copy 29, .copy 30, .copy 31]
    [.rot (.pos 63) 32 (.pos 1) 63, .rot (.pos 31) 33 (.pos 33) 62, .rot (.pos 47) 34 (.pos 17) 61, .rot (.pos 15) 35 (.pos 49) 60,
     .rot (.pos 55) 36 (.pos 9) 59, .rot (.pos 23) 37 (.pos 41) 58, .rot (.pos 39) 38 (.pos 25) 57, .rot (.pos 7) 39 (.pos 57) 56,
     .rot (.pos 59) 40 (.pos 5) 55, .rot (.pos 27) 41 (.pos 37) 54, .rot (.pos 43) 42 (.pos 21) 53, .rot (.pos 11) 43 (.pos 53) 52,
     .rot (.pos 51) 44 (.pos 13) 51, .rot (.pos 19) 45 (.pos 45) 50, .rot (.pos 35) 46 (.pos 29) 49, .rot (.pos 3) 47 (.pos 61) 48,
     .rot (.pos 3) 48 (.neg 61) 47, .rot (.pos 35) 49 (.neg 29) 46, .rot (.pos 19) 50 (.neg 45) 45, .rot (.pos 51) 51 (.neg 13) 44,
     .rot (.pos 11) 52 (.neg 53) 43, .rot (.pos 43) 53 (.neg 21) 42, .rot (.pos 27) 54 (.neg 37) 41, .rot (.pos 59) 55 (.neg 5) 40,
     .rot (.pos 7) 56 (.neg 57) 39, .rot (.pos 39) 57 (.neg 25) 38, .rot (.pos 23) 58 (.neg 41) 37, .rot (.pos 55) 59 (.neg 9) 36,
     .rot (.pos 15) 60 (.neg 49) 35, .rot (.pos 47) 61 (.neg 17) 34, .rot (.pos 31) 62 (.neg 33) 33, .rot (.pos 63) 63 (.neg 1) 32]

/-- Stage 11 of FDCT64 (R116). -/
def fdct64Stage11 : List LaneOp :=
  List.append
    [.copy 0, .copy 32, .copy 16, .copy 48,
     .copy 8, .copy 40, .copy 24, .copy 56,
     .copy 4, .copy 36, .copy 20, .copy 52,
     .copy 12, .copy 44, .copy 28, .copy 60,
     .copy 2, .copy 34, .copy 18, .copy 50,
     .copy 10, .copy 42, .copy 26, .copy 58,
     .copy 6, .copy 38, .copy 22, .copy 54,
     .copy 14, .copy 46, .copy 30, .copy 62]
    [.copy 1, .copy 33, .copy 17, .copy 49,
     .copy 9, .copy 41, .copy 25, .copy 57,
     .copy 5, .copy 37, .copy 21, .copy 53,
     .copy 13, .copy 45, .copy 29, .copy 61,
     .copy 3, .copy 35, .copy 19, .copy 51,
     .copy 11, .copy 43, .copy 27, .copy 59,
     .copy 7, .copy 39, .copy 23, .copy 55,
     .copy 15, .copy 47, .copy 31, .copy 63]

/-- `FDCT64` (R116). -/
def fdct64Net : List (List LaneOp) :=
  [fdct64Stage1, fdct64Stage2, fdct64Stage3, fdct64Stage4, fdct64Stage5, fdct64Stage6, fdct64Stage7, fdct64Stage8, fdct64Stage9, fdct64Stage10, fdct64Stage11]

end Sys2Proof.Machine
end

