-- ==== Sys2Proof/Machine/Dct.lean ====
section
/-! DEFINITION. Machine/Dct.lean: running a DCT butterfly network (spec/41_dct_kernels.md, 42_dct_kernels_large.md). -/

namespace Sys2Proof.Machine

/-- The signed constant of a weight (40_primitives.md R96). -/
def weightValue : Weight → Int
  | .pos k => cospi k
  | .neg k => -cospi k

/-- One lane of a stage, from the vector of the stage before (R105). -/
def runLaneOp (b : List Lane) : LaneOp → Calc Lane
  | .copy i => pure (lane b i)
  | .add i j => add (lane b i) (lane b j)
  | .sub i j => sub (lane b i) (lane b j)
  | .rot w0 i w1 j => rot (weightValue w0) (lane b i) (weightValue w1) (lane b j)

/-- One stage: every lane of `b<s>` from `b<s-1>` only. -/
def runStage (stage : List LaneOp) (b : List Lane) : Calc (List Lane) := stage.mapM (runLaneOp b)

/-- All stage vectors `b0, b1, ..`, `b0` being the input. -/
def runStages : List (List LaneOp) → List Lane → Calc (List (List Lane))
  | [], b => pure [b]
  | stage :: rest, b => do
    let b' ← runStage stage b
    let later ← runStages rest b'
    pure (b :: later)

/-- The last vector of a list of stage vectors: VOUT (R105). -/
def lastStage (bs : List (List Lane)) : List Lane := bs.getLastD []

end Sys2Proof.Machine
end

