-- ==== Sys2Proof/Machine/IdentityWht.lean ====
section
/-! DEFINITION. Machine/IdentityWht.lean: the identity kernels and the Walsh-Hadamard kernel (spec/44_identity_wht_kernels.md). -/

namespace Sys2Proof.Machine

/-- `SHL(x, k)` and then, for an odd power of the square root of two, `MULC(.., SQRT2)`: the per-size constant of an identity
kernel (R130 to R134), of the half-right kernels' first half (43_adst_kernels.md R123, R124) and of the input scaling
(46_transform_2d.md R150). -/
def shlSqrt2 (k : Nat) (root : Bool) (x : Lane) : Calc Lane := do
  let y ← shl x k
  if root then mulc y sqrt2 else pure y

/-- `MULC(x, SQRT2)`. -/
def timesSqrt2 (x : Lane) : Calc Lane := mulc x sqrt2

/-- `FIDTX4` (R130). -/
def fidtx4 (v : List Lane) : Calc (List Lane) := v.mapM timesSqrt2
/-- `FIDTX8` (R131). -/
def fidtx8 (v : List Lane) : Calc (List Lane) := v.mapM (shlSqrt2 1 false)
/-- `FIDTX16` (R132). -/
def fidtx16 (v : List Lane) : Calc (List Lane) := v.mapM (shlSqrt2 1 true)
/-- `FIDTX32` (R133). -/
def fidtx32 (v : List Lane) : Calc (List Lane) := v.mapM (shlSqrt2 2 false)
/-- `FIDTX64` (R134). -/
def fidtx64 (v : List Lane) : Calc (List Lane) := v.mapM (shlSqrt2 2 true)

/-- `WHT4` (R135): one arithmetic right shift, no rounding term. -/
def wht4 (v : List Lane) : Calc (List Lane) := do
  let a1 ← add (lane v 0) (lane v 1)
  let d1 ← sub (lane v 3) (lane v 2)
  let e ← sub a1 d1
  let e1 := e.sshiftRight 1
  let b1 ← sub e1 (lane v 1)
  let c1 ← sub e1 (lane v 2)
  let a2 ← sub a1 c1
  let d2 ← add d1 b1
  pure [a2, c1, d2, b1]

end Sys2Proof.Machine
end

