-- ==== Sys2Proof/Machine/Kernels.lean ====
section
/-! DEFINITION. Machine/Kernels.lean: the sixteen 1-D kernels under one contract (spec/40_primitives.md R100, 30_encoding.md R70). -/

namespace Sys2Proof.Machine

/-- One run of a kernel: its input, the stage vectors it wrote (none for a kernel without stages; log entry 14) and its
output. -/
structure KernelRun where
  vin : List Lane
  stages : List (List Lane)
  vout : List Lane
deriving DecidableEq, Repr

/-- A DCT kernel: the stages of its network, VOUT the last (41_dct_kernels.md R105). -/
def runDct (net : List (List LaneOp)) (v : List Lane) : Calc KernelRun := do
  let bs ← runStages net v
  pure { vin := v, stages := bs, vout := lastStage bs }

/-- A half-right kernel of length `2 * half` (43_adst_kernels.md R123, R124): the first half of the input, scaled by `first`, is
the second half of the output; the DCT of the second half, scaled by the square root of two, is the first half. -/
def runHalfRight (half : Nat) (first : Lane → Calc Lane) (net : List (List LaneOp)) (v : List Lane) : Calc KernelRun := do
  let high ← (v.take half).mapM first
  let h ← (v.drop half).mapM timesSqrt2
  let bs ← runStages net h
  pure { vin := v, stages := bs, vout := lastStage bs ++ high }

/-- A kernel that uses no stage vectors. -/
def runPlain (f : List Lane → Calc (List Lane)) (v : List Lane) : Calc KernelRun := do
  let o ← f v
  pure { vin := v, stages := [], vout := o }

/-- The kernel `k` on the vector `v` of its length (R70). -/
def runKernel (k : Kernel) (v : List Lane) : Calc KernelRun :=
  match k with
  | .fdct4 => runDct fdct4Net v
  | .fdct8 => runDct fdct8Net v
  | .fdct16 => runDct fdct16Net v
  | .fdct32 => runDct fdct32Net v
  | .fdct64 => runDct fdct64Net v
  | .fadst4 => runPlain fadst4 v
  | .fadst8 => runPlain fadst8 v
  | .fadst16 => runPlain fadst16 v
  | .fhalfright32 => runHalfRight 16 (shlSqrt2 2 false) fdct16Net v
  | .fhalfright64 => runHalfRight 32 (shlSqrt2 2 true) fdct32Net v
  | .fidtx4 => runPlain fidtx4 v
  | .fidtx8 => runPlain fidtx8 v
  | .fidtx16 => runPlain fidtx16 v
  | .fidtx32 => runPlain fidtx32 v
  | .fidtx64 => runPlain fidtx64 v
  | .wht4 => runPlain wht4 v

/-! ### The lane registers after kernel runs (spec/10_state.md R14) -/

/-- Write a vector into the low positions of a file of 64; the others keep their value (R14). -/
def overlay {α : Type} (xs : List α) (old : Vector α 64) : Vector α 64 :=
  Vector.ofFn fun i => xs.getD i.val old[i]

/-- Write a grid into the low rows and columns of a 64 by 64 buffer; the others keep their value (R26 to R28). -/
def overlayGrid {α : Type} (g : List (List α)) (old : Vector (Vector α 64) 64) : Vector (Vector α 64) 64 :=
  Vector.ofFn fun r => overlay (g.getD r.val []) old[r]

/-- VIN, VOUT and the stage vectors after one kernel run. -/
def writeLanes (e : Engine) (k : KernelRun) : Engine :=
  { e with
    vin := overlay k.vin e.vin
    vout := overlay k.vout e.vout
    b := Vector.ofFn fun i => overlay (k.stages.getD i.val []) e.b[i] }

end Sys2Proof.Machine
end

