-- ==== Sys2Proof/Machine/Flags.lean ====
section
/-! DEFINITION. Machine/Flags.lean: the single-bit state of an engine. FTXE has no condition codes (10_state.md R16); what it
has are the fields of STATUS (R23), the debug bit of CAP (R18) and the causes a fault records (60_exceptions.md R201). -/

namespace Sys2Proof.Machine

/-- The causes of a fatal fault (60_exceptions.md R201). -/
inductive Cause where
  | txtypeRange
  | illegalEntry
  | rangeBudget
  | operandAlign
deriving DecidableEq, Repr

/-- The code STATUS.CAUSE shows (R201). -/
def causeCode : Cause → BitVec 4
  | .txtypeRange => 1
  | .illegalEntry => 2
  | .rangeBudget => 3
  | .operandAlign => 4

/-- STATUS.DONE, bit 0 (R23). -/
def statusDone (st : Word) : Bool := st.getLsbD 0

/-- STATUS.FAULT, bit 1 (R23). -/
def statusFault (st : Word) : Bool := st.getLsbD 1

/-- STATUS.CAUSE, bits 7:4 (R23). -/
def statusCause (st : Word) : BitVec 4 := st.extractLsb' 4 4

/-- `STATUS.DONE <- 1` (30_encoding.md R73). -/
def setDone (st : Word) : Word := st ||| 1#32

/-- `STATUS.DONE <- 0; STATUS.FAULT <- 1; STATUS.CAUSE <- code` (60_exceptions.md R204); the reserved bits keep their value. -/
def setFault (c : Cause) (st : Word) : Word :=
  (st &&& 0xFFFFFF0C#32) ||| 2#32 ||| ((causeCode c).setWidth 32 <<< 4)

/-- CAP.DBG: DEBUG_CHECKS of this engine (R18). -/
def debugChecks (e : Engine) : Bool := e.cap.getLsbD 0

end Sys2Proof.Machine
end

