-- ==== Sys2Proof/Machine/Ops.lean ====
section
/-! DEFINITION. Machine/Ops.lean: the named operations over memory, registers and engines; taking a fault, and reset. -/

namespace Sys2Proof.Machine

/-! ### Data memory (spec/20_memory.md R40, R41) -/

/-- What an address that nothing has written reads as. The spec leaves memory at power-up to the platform (93 U11): DESIGN
CHOICE, log entry 4. -/
def unlistedByte : Byte := 0

/-- The canonical form: addresses strictly rising, inside the memory, and no entry equal to what an unlisted address reads as. -/
def Memory.wf (m : Memory) : Bool :=
  decide (m.Pairwise fun x y => x.1 < y.1) &&
    m.all fun x => decide (x.2 ≠ unlistedByte) && decide (x.1 < Config.memBytes)

/-- The byte at an address. -/
def readByte : Memory → Nat → Byte
  | [], _ => unlistedByte
  | (k, v) :: rest, a => if k = a then v else readByte rest a

/-- `MemRead(a, n)`: little-endian, as an unsigned number (R41). -/
def memRead (m : Memory) (a : Nat) : Nat → Nat
  | 0 => 0
  | n + 1 => (readByte m a).toNat + 256 * memRead m (a + 1) n

/-- The entries that hold `bs` from address `a` on. -/
def cells (a : Nat) : List Byte → Memory
  | [] => []
  | v :: rest => if v = unlistedByte then cells (a + 1) rest else (a, v) :: cells (a + 1) rest

/-- Store consecutive bytes from `a` on. -/
def writeBytes (m : Memory) (a : Nat) (bs : List Byte) : Memory :=
  m.filter (fun x => decide (x.1 < a)) ++ cells a bs ++ m.filter (fun x => decide (a + bs.length ≤ x.1))

/-- The low `8n` bits of `v` as `n` bytes, lowest first (R41). -/
def leBytes : Nat → Nat → List Byte
  | 0, _ => []
  | n + 1, v => BitVec.ofNat 8 v :: leBytes n (v / 256)

/-- `MemWrite(a, n, v)` (R41). -/
def memWrite (m : Memory) (a n v : Nat) : Memory := writeBytes m a (leBytes n v)

/-- The bytes of consecutive output words (R43). -/
def wordBytes (ws : List Lane) : List Byte := ws.flatMap fun w => leBytes 4 w.toNat

/-- `MemWrite(a + 4k, 4, ws[k])` for every `k`: output words are contiguous (R43), and a region that would wrap is refused
before (R47). -/
def writeWords (m : Memory) (a : Nat) (ws : List Lane) : Memory := writeBytes m a (wordBytes ws)

/-- `MemAdmit(a, n)`: whether the platform admits the access (R48; log entry 3). -/
def admits (holes : List Hole) (a n : Nat) : Bool :=
  !holes.any fun h => decide (h.width = n) && decide (h.base ≤ a) && decide (a < h.base + h.size)

/-! ### Taking a fault, completing, reset (spec/60_exceptions.md R204, 30_encoding.md R73, 70_reset_and_hazards.md R230) -/

/-- `raise Fault(cause)`: DONE, FAULT and CAUSE of STATUS, FINFO (CMD already holds the command word) and the run state;
nothing else (R204). -/
def raise (c : Cause) (s : State) : State :=
  { s with eng := { s.eng with
      status := setFault c s.eng.status
      finfo := s.eng.cmd
      run := .faulted } }

/-- What every command that did not fault ends with: `STATUS.DONE <- 1` (30_encoding.md R73). -/
def complete (s : State) : State :=
  { s with eng := { s.eng with status := setDone s.eng.status } }

/-- `Reset(e)`: the only sequel to a fault (R206, R230). CAP is a constant; data memory is not touched. The scratch, which
R230 leaves unspecified, is as in `Engine.afterReset` (log entry 5). -/
def resetEngine (s : State) : State :=
  { s with eng := Engine.afterReset s.eng.cap }

/-- What a write of CMD to an idle engine does before decoding: `CMD <- v` (R73), and the budget bit is cleared (40_primitives.md
R101). -/
def startCommand (v : Word) (s : State) : State :=
  { s with eng := { s.eng with cmd := v, viol := false } }

/-! ### The control-register space (spec/10_state.md R17 to R25) -/

/-- The value `RegRead(off)` returns. -/
def regValue (e : Engine) (off : Nat) : Word :=
  match off with
  | 0x00 => e.cap
  | 0x04 => e.src
  | 0x08 => e.stride
  | 0x0C => e.dst
  | 0x10 => e.cmd
  | 0x14 => e.status
  | 0x18 => e.finfo
  | _ => 0

/-- `RegWrite(off, v)` for every register but CMD: SRC, STRIDE and DST store all 32 bits, the others ignore the write. -/
def regStore (e : Engine) (off : Nat) (v : Word) : Engine :=
  match off with
  | 0x04 => { e with src := v }
  | 0x08 => { e with stride := v }
  | 0x0C => { e with dst := v }
  | _ => e

/-- The register accesses that belong to the interface: 32 bits at a multiple of 4 in 0x00 .. 0x1C (20_memory.md R60). -/
def regAccessOk (off width : Nat) : Bool :=
  decide (width = 4) && decide (off % 4 = 0) && decide (off ≤ 0x1C)

/-! ### Which engine an action addresses (spec/60_exceptions.md R212) -/

/-- Bring engine `k` into `eng`; none if the system has no such engine. The engines and their order are the same after. -/
def focus (k : Nat) (s : State) : Option State :=
  if k = s.lower.length then some s
  else
    match s.engines[k]? with
    | none => none
    | some e => some { s with lower := s.engines.take k, eng := e, upper := s.engines.drop (k + 1) }

end Sys2Proof.Machine
end

