-- ==== Sys2Proof/Machine/Operands.lean ====
section
/-! DEFINITION. Machine/Operands.lean: the operand forms of the commands. Addresses, regions, alignment and admission (spec/20_memory.md
R42 to R48, 47_repack_and_misc_commands.md R196), and the frame every command that touches memory runs in (30_encoding.md R73, 60_exceptions.md
R202, R203). -/

namespace Sys2Proof.Machine

/-- SB: bytes per sample (R42; 30_encoding.md R71). -/
def sampleBytes (hbd : Bool) : Nat := if hbd then 2 else 1

/-- `addr(r, c)` of R42. -/
def sampleAddr (e : Engine) (hbd : Bool) (r c : Nat) : Nat :=
  (e.src.toNat + (r * e.stride.toNat + c) * sampleBytes hbd) % Config.memBytes

/-- `sample(r, c)` of R42, sign-extended to the 16 bits of XBUF (10_state.md R26). -/
def sample (m : Memory) (e : Engine) (hbd : Bool) (r c : Nat) : Sample :=
  if hbd then BitVec.ofNat 16 (memRead m (sampleAddr e hbd r c) 2)
  else (BitVec.ofNat 8 (memRead m (sampleAddr e hbd r c) 1)).signExtend 16

/-- The address of K1D input word `i` (R44). -/
def wordAddr (e : Engine) (i : Nat) : Nat := (e.src.toNat + 4 * i) % Config.memBytes

/-- K1D input word `i` (R44). -/
def inputWord (m : Memory) (e : Engine) (i : Nat) : Lane := BitVec.ofNat 32 (memRead m (wordAddr e i) 4)

/-- The address of output word `k` (R43). -/
def outAddr (e : Engine) (k : Nat) : Nat := (e.dst.toNat + 4 * k) % Config.memBytes

/-- What a command reads and writes: how SRC must be aligned and wide each read is, the read addresses, the input
region, and NOUT. -/
structure Transfer where
  readBytes : Nat
  addrs : List Nat
  reads : List Span
  nout : Nat
deriving DecidableEq, Repr

/-- The transfer of a command on a `w` by `h` block of samples (R42, R46). -/
def blockTransfer (w h : Nat) (hbd : Bool) (nout : Nat) (e : Engine) : Transfer where
  readBytes := sampleBytes hbd
  addrs := (List.range h).flatMap fun r => (List.range w).map fun c => sampleAddr e hbd r c
  reads := (List.range h).map fun r =>
    { start := e.src.toNat + r * e.stride.toNat * sampleBytes hbd, len := w * sampleBytes hbd }
  nout := nout

/-- The transfer of a K1D command on a vector of `l` words (R44, R46). -/
def vectorTransfer (l : Nat) (e : Engine) : Transfer where
  readBytes := 4
  addrs := (List.range l).map (wordAddr e)
  reads := [{ start := e.src.toNat, len := 4 * l }]
  nout := l

/-- The output region: `4 * NOUT` bytes from DST (R46). -/
def outSpan (t : Transfer) (e : Engine) : Span := { start := e.dst.toNat, len := 4 * t.nout }

/-- Two runs of addresses share a byte. -/
def spansMeet (a b : Span) : Bool :=
  decide (max a.start b.start < min (a.start + a.len) (b.start + b.len))

/-- A run of addresses goes past the top of memory. -/
def spanWraps (a : Span) : Bool := decide (Config.memBytes < a.start + a.len)

/-- R45: SRC a multiple of the access size, DST a multiple of 4. -/
def misaligned (t : Transfer) (e : Engine) : Bool :=
  decide (e.src.toNat % t.readBytes ≠ 0) || decide (e.dst.toNat % 4 ≠ 0)

/-- The regions of the command as R55 looks at them. -/
def footprint (t : Transfer) (s : State) : Footprint :=
  { host := s.host, reads := t.reads, writes := outSpan t s.eng, after := [], tokens := [] }

/-- The command is ordered before the next action of host `h`: `h` wrote it (R54), or the hosts' synchronisation says so (R55). -/
def Footprint.orderedBefore (g : Footprint) (h : Nat) : Bool := decide (h = g.host) || decide (h ∈ g.after)

/-- The command `f` now begun and the earlier `g` are concurrent, and one writes what the other touches (R55). -/
def conflicts (f g : Footprint) : Bool :=
  !g.orderedBefore f.host &&
    (spansMeet f.writes g.writes || g.reads.any (spansMeet f.writes) || f.reads.any (spansMeet g.writes))

/-- Whether the spec gives the command's regions a meaning: they do not wrap, do not share a byte (R47), and do not meet
those of a concurrent command (R55). -/
def regionRefusal (t : Transfer) (s : State) : Option Refusal :=
  if t.reads.any spanWraps || spanWraps (outSpan t s.eng) then some .regionWraps
  else if t.reads.any (spansMeet (outSpan t s.eng)) then some .regionsOverlap
  else if s.window.any (conflicts (footprint t s)) then some .concurrentOverlap
  else none

/-- Every read of the command is admitted (R48). -/
def readsAdmitted (t : Transfer) (s : State) : Bool := t.addrs.all fun a => admits s.holes a t.readBytes

/-- Every write of the command is admitted (R48). -/
def writesAdmitted (t : Transfer) (s : State) : Bool :=
  (List.range t.nout).all fun k => admits s.holes (outAddr s.eng k) 4

/-- What a command computes: the engine after the computation, which is what a budget fault leaves; the engine after the
last phase; the output words. -/
structure Work where
  computed : Engine
  finished : Engine
  words : List Lane

/-- The command is one of those that a later command may be concurrent with (R55). -/
def recordFootprint (t : Transfer) (s : State) : State :=
  { s with window := footprint t s :: s.window }

/-- The frame of every command that touches memory: alignment (R73), the premises on its regions, all of its reads, the
budget check after the whole computation and before the first write (60_exceptions.md R203), all of its writes, DONE. -/
def perform (t : Transfer) (work : Memory → Engine → Work) (s : State) : Host.Outcome State Fault Refusal :=
  if misaligned t s.eng then .next (raise .operandAlign s)
  else
    match regionRefusal t s with
    | some r => .refused r
    | none =>
      if readsAdmitted t s then
        if (work s.mem s.eng).computed.viol && debugChecks s.eng then
          .next (raise .rangeBudget { recordFootprint t s with eng := (work s.mem s.eng).computed })
        else if writesAdmitted t s then
          .next (complete { recordFootprint t s with
            eng := (work s.mem s.eng).finished
            mem := writeWords s.mem s.eng.dst.toNat (work s.mem s.eng).words })
        else .fault .notAdmitted
      else .fault .notAdmitted

end Sys2Proof.Machine
end

