-- ==== Sys2Proof/Machine/Transform2d.lean ====
section
/-! DEFINITION. Machine/Transform2d.lean: the separable 2-D transform (spec/46_transform_2d.md R147 to R153), the input conditioner (spec/45_flip.md
R141) and the large-block post-pass (spec/47_repack_and_misc_commands.md R190, R191). Grids are lists of rows. -/

namespace Sys2Proof.Machine

/-- The conditioned block: sample `(r, c)`, mirrored as the flip class asks (R141). -/
def condition (f : FlipClass) (w h : Nat) (smp : Nat → Nat → Sample) : List (List Sample) :=
  (List.range h).map fun r => (List.range w).map fun c =>
    smp (if f.ud then h - 1 - r else r) (if f.lr then w - 1 - c else c)

/-- The columns of a grid `n` columns wide, each from top to bottom. -/
def columns (n : Nat) (g : List (List Lane)) : List (List Lane) :=
  (List.range n).map fun c => g.map fun row => lane row c

/-- `INSCALE(x, rec)` (R150). -/
def inScale (rec : DispatchRecord) (x : Lane) : Calc Lane := shlSqrt2 rec.inUp rec.inSqrt2 x

/-- `SCALE(v, n)` (R153). -/
def scale (n : Nat) (v : Lane) : Calc Lane := narrowS (roundShiftSigned v.toInt n)

/-- One vector of a pass: scale the inputs, run the kernel, scale the outputs. -/
def passVector (k : Kernel) (pre post : Lane → Calc Lane) (v : List Lane) : Calc (KernelRun × List Lane) := do
  let vin ← v.mapM pre
  let run ← runKernel k vin
  let out ← run.vout.mapM post
  pure (run, out)

/-- One pass over all of its rows or columns, in index order. -/
def pass (k : Kernel) (pre post : Lane → Calc Lane) (vs : List (List Lane)) : Calc (List (KernelRun × List Lane)) :=
  vs.mapM (passVector k pre post)

/-- What the two passes leave: the kernel runs in order, MID and the full RES. -/
structure Passes where
  runs : List KernelRun
  mid : List (List Lane)
  res : List (List Lane)
deriving DecidableEq, Repr

/-- `PASSES_ROWS_FIRST(W, H, rec)` (R151). -/
def passesRowsFirst (w h : Nat) (rec : DispatchRecord) (x : List (List Lane)) : Calc Passes := do
  let p ← pass rec.rowk (inScale rec) (scale rec.midShift) x
  let mid := p.map Prod.snd
  let q ← pass rec.colk pure (scale rec.outShift) (columns w mid)
  pure { runs := p.map Prod.fst ++ q.map Prod.fst, mid := mid, res := columns h (q.map Prod.snd) }

/-- `PASSES_COLS_FIRST(W, H, rec)` (R152). -/
def passesColsFirst (w h : Nat) (rec : DispatchRecord) (x : List (List Lane)) : Calc Passes := do
  let p ← pass rec.colk (inScale rec) (scale rec.midShift) (columns w x)
  let mid := columns h (p.map Prod.snd)
  let q ← pass rec.rowk pure (scale rec.outShift) mid
  pure { runs := p.map Prod.fst ++ q.map Prod.fst, mid := mid, res := q.map Prod.snd }

/-- Both passes in the order of the record (R147). -/
def passes (w h : Nat) (rec : DispatchRecord) (x : List (List Lane)) : Calc Passes :=
  match rec.order with
  | .rowsFirst => passesRowsFirst w h rec x
  | .colsFirst => passesColsFirst w h rec x

/-- Phase 5: every element of frequency 32 or more along an axis is zeroed (R190). -/
def zeroHigh (g : List (List Lane)) : List (List Lane) :=
  g.zipIdx.map fun row => row.1.zipIdx.map fun v =>
    if Config.keepDim ≤ row.2 ∨ Config.keepDim ≤ v.2 then 0 else v.1

/-- `min(W, 32)` or `min(H, 32)` (R191). -/
def kept (n : Nat) : Nat := min n Config.keepDim

/-- Phase 6: the output words, row-major with a row stride of `min(W, 32)` (R191). -/
def packWords (w h : Nat) (g : List (List Lane)) : List Lane :=
  (g.take (kept h)).flatMap fun row => row.take (kept w)

/-- `NOUT` of a shape (R191). -/
def shapeNout (sh : Shape) : Nat := kept (shapeWidth sh) * kept (shapeHeight sh)

/-- The conditioned block of a command: phase 1 (R147). -/
def shapeBlock (sh : Shape) (t : TxType) (hbd : Bool) (m : Memory) (e : Engine) : List (List Sample) :=
  condition (flipClass t) (shapeWidth sh) (shapeHeight sh) (sample m e hbd)

/-- Phases 2 to 4 on a conditioned block, each sample sign-extended to a lane (R150). -/
def shapePasses (sh : Shape) (t : TxType) (x : List (List Sample)) : Calc Passes :=
  passes (shapeWidth sh) (shapeHeight sh) (dispatch sh t) (x.map fun row => row.map (BitVec.signExtend 32))

/-- The engine after phases 1 to 4 of a 2-D transform (R147). -/
def writeScratch (e : Engine) (x : List (List Sample)) (p : Passes × Bool) : Engine :=
  { p.1.runs.foldl writeLanes e with
    xbuf := overlayGrid x e.xbuf
    mid := overlayGrid p.1.mid e.mid
    res := overlayGrid p.1.res e.res
    viol := p.2 }

/-- `TX2D` on a conditioned block: what is computed and what is written (R147). -/
def blockWork (sh : Shape) (t : TxType) (x : List (List Sample)) (e : Engine) : Work :=
  let p := (shapePasses sh t x).run false
  let scratch := writeScratch e x p
  { computed := scratch
    finished := { scratch with res := overlayGrid (zeroHigh p.1.res) scratch.res }
    words := packWords (shapeWidth sh) (shapeHeight sh) (zeroHigh p.1.res) }

/-- The transfer of an `FHT*` command. -/
def shapeTransfer (sh : Shape) (hbd : Bool) (e : Engine) : Transfer :=
  blockTransfer (shapeWidth sh) (shapeHeight sh) hbd (shapeNout sh) e

/-- `TX2D(W, H, DISPATCH[shape][type], type, hbd)`, the body of every `FHT*` command, with the check of the type before it
(30_encoding.md R73; R147). -/
def tx2d (sh : Shape) (tt : BitVec 8) (hbd : Bool) (s : State) : Host.Outcome State Fault Refusal :=
  match txTypeOf tt with
  | none => .next (raise .txtypeRange s)
  | some t =>
    perform (shapeTransfer sh hbd s.eng) (fun m e => blockWork sh t (shapeBlock sh t hbd m e) e) s

end Sys2Proof.Machine
end

