-- ==== Sys2Proof/Machine/Fht.lean ====
section
/-! DEFINITION. Machine/Fht.lean: the meanings of the nineteen `FHT<W>X<H>` commands (spec/46_transform_2d.md R160 to R178), each `TX2D` at its shape. -/

namespace Sys2Proof.Machine

/-- `FHT4X4 type [, hbd]` (R160). -/
def execFht4x4 (tt : BitVec 8) (hbd : Bool) (s : State) : Host.Outcome State Fault Refusal :=
  tx2d .s4x4 tt hbd s

/-- `FHT8X8 type [, hbd]` (R161). -/
def execFht8x8 (tt : BitVec 8) (hbd : Bool) (s : State) : Host.Outcome State Fault Refusal :=
  tx2d .s8x8 tt hbd s

/-- `FHT16X16 type [, hbd]` (R162). -/
def execFht16x16 (tt : BitVec 8) (hbd : Bool) (s : State) : Host.Outcome State Fault Refusal :=
  tx2d .s16x16 tt hbd s

/-- `FHT32X32 type [, hbd]` (R163). -/
def execFht32x32 (tt : BitVec 8) (hbd : Bool) (s : State) : Host.Outcome State Fault Refusal :=
  tx2d .s32x32 tt hbd s

/-- `FHT64X64 type [, hbd]` (R164). -/
def execFht64x64 (tt : BitVec 8) (hbd : Bool) (s : State) : Host.Outcome State Fault Refusal :=
  tx2d .s64x64 tt hbd s

/-- `FHT4X8 type [, hbd]` (R165). -/
def execFht4x8 (tt : BitVec 8) (hbd : Bool) (s : State) : Host.Outcome State Fault Refusal :=
  tx2d .s4x8 tt hbd s

/-- `FHT8X4 type [, hbd]` (R166). -/
def execFht8x4 (tt : BitVec 8) (hbd : Bool) (s : State) : Host.Outcome State Fault Refusal :=
  tx2d .s8x4 tt hbd s

/-- `FHT8X16 type [, hbd]` (R167). -/
def execFht8x16 (tt : BitVec 8) (hbd : Bool) (s : State) : Host.Outcome State Fault Refusal :=
  tx2d .s8x16 tt hbd s

/-- `FHT16X8 type [, hbd]` (R168). -/
def execFht16x8 (tt : BitVec 8) (hbd : Bool) (s : State) : Host.Outcome State Fault Refusal :=
  tx2d .s16x8 tt hbd s

/-- `FHT16X32 type [, hbd]` (R169). -/
def execFht16x32 (tt : BitVec 8) (hbd : Bool) (s : State) : Host.Outcome State Fault Refusal :=
  tx2d .s16x32 tt hbd s

/-- `FHT32X16 type [, hbd]` (R170). -/
def execFht32x16 (tt : BitVec 8) (hbd : Bool) (s : State) : Host.Outcome State Fault Refusal :=
  tx2d .s32x16 tt hbd s

/-- `FHT32X64 type [, hbd]` (R171). -/
def execFht32x64 (tt : BitVec 8) (hbd : Bool) (s : State) : Host.Outcome State Fault Refusal :=
  tx2d .s32x64 tt hbd s

/-- `FHT64X32 type [, hbd]` (R172). -/
def execFht64x32 (tt : BitVec 8) (hbd : Bool) (s : State) : Host.Outcome State Fault Refusal :=
  tx2d .s64x32 tt hbd s

/-- `FHT4X16 type [, hbd]` (R173). -/
def execFht4x16 (tt : BitVec 8) (hbd : Bool) (s : State) : Host.Outcome State Fault Refusal :=
  tx2d .s4x16 tt hbd s

/-- `FHT16X4 type [, hbd]` (R174). -/
def execFht16x4 (tt : BitVec 8) (hbd : Bool) (s : State) : Host.Outcome State Fault Refusal :=
  tx2d .s16x4 tt hbd s

/-- `FHT8X32 type [, hbd]` (R175). -/
def execFht8x32 (tt : BitVec 8) (hbd : Bool) (s : State) : Host.Outcome State Fault Refusal :=
  tx2d .s8x32 tt hbd s

/-- `FHT32X8 type [, hbd]` (R176). -/
def execFht32x8 (tt : BitVec 8) (hbd : Bool) (s : State) : Host.Outcome State Fault Refusal :=
  tx2d .s32x8 tt hbd s

/-- `FHT16X64 type [, hbd]` (R177). -/
def execFht16x64 (tt : BitVec 8) (hbd : Bool) (s : State) : Host.Outcome State Fault Refusal :=
  tx2d .s16x64 tt hbd s

/-- `FHT64X16 type [, hbd]` (R178). -/
def execFht64x16 (tt : BitVec 8) (hbd : Bool) (s : State) : Host.Outcome State Fault Refusal :=
  tx2d .s64x16 tt hbd s

end Sys2Proof.Machine
end

