-- ==== Sys2Proof/Machine/K1d.lean ====
section
/-! DEFINITION. Machine/K1d.lean: the meanings of the sixteen `K1D.<kernel>` commands (spec/47_repack_and_misc_commands.md R193). -/

namespace Sys2Proof.Machine

/-- The input vector of a K1D command (20_memory.md R44). -/
def inputVector (l : Nat) (m : Memory) (e : Engine) : List Lane := (List.range l).map (inputWord m e)

/-- One kernel on one vector: no flip and no scaling (R193). -/
def vectorWork (k : Kernel) (v : List Lane) (e : Engine) : Work :=
  let p := (runKernel k v).run false
  let done := { writeLanes e p.1 with viol := p.2 }
  { computed := done, finished := done, words := p.1.vout }

/-- `K1D(kernel)` (R193). -/
def k1d (k : Kernel) (s : State) : Host.Outcome State Fault Refusal :=
  perform (vectorTransfer (kernelLen k) s.eng) (fun m e => vectorWork k (inputVector (kernelLen k) m e) e) s

/-- `K1D.FDCT4` (R193). -/
def execK1dFdct4 (s : State) : Host.Outcome State Fault Refusal := k1d .fdct4 s

/-- `K1D.FDCT8` (R193). -/
def execK1dFdct8 (s : State) : Host.Outcome State Fault Refusal := k1d .fdct8 s

/-- `K1D.FDCT16` (R193). -/
def execK1dFdct16 (s : State) : Host.Outcome State Fault Refusal := k1d .fdct16 s

/-- `K1D.FDCT32` (R193). -/
def execK1dFdct32 (s : State) : Host.Outcome State Fault Refusal := k1d .fdct32 s

/-- `K1D.FDCT64` (R193). -/
def execK1dFdct64 (s : State) : Host.Outcome State Fault Refusal := k1d .fdct64 s

/-- `K1D.FADST4` (R193). -/
def execK1dFadst4 (s : State) : Host.Outcome State Fault Refusal := k1d .fadst4 s

/-- `K1D.FADST8` (R193). -/
def execK1dFadst8 (s : State) : Host.Outcome State Fault Refusal := k1d .fadst8 s

/-- `K1D.FADST16` (R193). -/
def execK1dFadst16 (s : State) : Host.Outcome State Fault Refusal := k1d .fadst16 s

/-- `K1D.FHALFRIGHT32` (R193). -/
def execK1dFhalfright32 (s : State) : Host.Outcome State Fault Refusal := k1d .fhalfright32 s

/-- `K1D.FHALFRIGHT64` (R193). -/
def execK1dFhalfright64 (s : State) : Host.Outcome State Fault Refusal := k1d .fhalfright64 s

/-- `K1D.FIDTX4` (R193). -/
def execK1dFidtx4 (s : State) : Host.Outcome State Fault Refusal := k1d .fidtx4 s

/-- `K1D.FIDTX8` (R193). -/
def execK1dFidtx8 (s : State) : Host.Outcome State Fault Refusal := k1d .fidtx8 s

/-- `K1D.FIDTX16` (R193). -/
def execK1dFidtx16 (s : State) : Host.Outcome State Fault Refusal := k1d .fidtx16 s

/-- `K1D.FIDTX32` (R193). -/
def execK1dFidtx32 (s : State) : Host.Outcome State Fault Refusal := k1d .fidtx32 s

/-- `K1D.FIDTX64` (R193). -/
def execK1dFidtx64 (s : State) : Host.Outcome State Fault Refusal := k1d .fidtx64 s

/-- `K1D.WHT4` (R193). -/
def execK1dWht4 (s : State) : Host.Outcome State Fault Refusal := k1d .wht4 s

end Sys2Proof.Machine
end

