-- ==== Sys2Proof/Machine/Nop.lean ====
section
/-! DEFINITION. Machine/Nop.lean: the meaning of `NOP` (spec/47_repack_and_misc_commands.md R194). -/

namespace Sys2Proof.Machine

/-- `NOP`: nothing, then DONE (R194). -/
def execNop (s : State) : Host.Outcome State Fault Refusal := .next (complete s)

end Sys2Proof.Machine
end

