-- ==== Sys2Proof/Machine/Wht.lean ====
section
/-! DEFINITION. Machine/Wht.lean: the meaning of `FWHT4X4` (spec/47_repack_and_misc_commands.md R192). -/

namespace Sys2Proof.Machine

/-- The input block of `FWHT4X4`: no flip (R192). -/
def whtBlock (hbd : Bool) (m : Memory) (e : Engine) : List (List Lane) :=
  (List.range 4).map fun r => (List.range 4).map fun c => (sample m e hbd r c).signExtend 32

/-- The two passes of `FWHT4X4`: rows, then columns with the unit factor (R192). -/
def whtPasses (x : List (List Lane)) : Calc Passes := do
  let p ← pass .wht4 pure pure x
  let mid := p.map Prod.snd
  let q ← pass .wht4 pure (fun v => shl v Config.unitQuantShift) (columns 4 mid)
  pure { runs := p.map Prod.fst ++ q.map Prod.fst, mid := mid, res := columns 4 (q.map Prod.snd) }

/-- `FWHT4X4` on a block of lanes: what is computed and what is written (R192). -/
def whtWork (x : List (List Lane)) (e : Engine) : Work :=
  let p := (whtPasses x).run false
  let done := { p.1.runs.foldl writeLanes e with
    mid := overlayGrid p.1.mid e.mid
    res := overlayGrid p.1.res e.res
    viol := p.2 }
  { computed := done, finished := done, words := p.1.res.flatten }

/-- `FWHT4X4 [hbd]` (R192). -/
def execFwht4x4 (hbd : Bool) (s : State) : Host.Outcome State Fault Refusal :=
  perform (blockTransfer 4 4 hbd 16 s.eng) (fun m e => whtWork (whtBlock hbd m e) e) s

end Sys2Proof.Machine
end

