-- ==== Sys2Proof/Machine/Dispatch.lean ====
section
/-! DEFINITION. Machine/Dispatch.lean: the command of an engine that has decoded it, one arm per command. -/

namespace Sys2Proof.Machine

def exec (i : Instr) (s : State) : Host.Outcome State Fault Refusal :=
  match i with
  | .nop => Sys2Proof.Machine.execNop s
  | .fht4x4 tt hbd => Sys2Proof.Machine.execFht4x4 tt hbd s
  | .fht8x8 tt hbd => Sys2Proof.Machine.execFht8x8 tt hbd s
  | .fht16x16 tt hbd => Sys2Proof.Machine.execFht16x16 tt hbd s
  | .fht32x32 tt hbd => Sys2Proof.Machine.execFht32x32 tt hbd s
  | .fht64x64 tt hbd => Sys2Proof.Machine.execFht64x64 tt hbd s
  | .fht4x8 tt hbd => Sys2Proof.Machine.execFht4x8 tt hbd s
  | .fht8x4 tt hbd => Sys2Proof.Machine.execFht8x4 tt hbd s
  | .fht8x16 tt hbd => Sys2Proof.Machine.execFht8x16 tt hbd s
  | .fht16x8 tt hbd => Sys2Proof.Machine.execFht16x8 tt hbd s
  | .fht16x32 tt hbd => Sys2Proof.Machine.execFht16x32 tt hbd s
  | .fht32x16 tt hbd => Sys2Proof.Machine.execFht32x16 tt hbd s
  | .fht32x64 tt hbd => Sys2Proof.Machine.execFht32x64 tt hbd s
  | .fht64x32 tt hbd => Sys2Proof.Machine.execFht64x32 tt hbd s
  | .fht4x16 tt hbd => Sys2Proof.Machine.execFht4x16 tt hbd s
  | .fht16x4 tt hbd => Sys2Proof.Machine.execFht16x4 tt hbd s
  | .fht8x32 tt hbd => Sys2Proof.Machine.execFht8x32 tt hbd s
  | .fht32x8 tt hbd => Sys2Proof.Machine.execFht32x8 tt hbd s
  | .fht16x64 tt hbd => Sys2Proof.Machine.execFht16x64 tt hbd s
  | .fht64x16 tt hbd => Sys2Proof.Machine.execFht64x16 tt hbd s
  | .fwht4x4 hbd => Sys2Proof.Machine.execFwht4x4 hbd s
  | .k1dFdct4 => Sys2Proof.Machine.execK1dFdct4 s
  | .k1dFdct8 => Sys2Proof.Machine.execK1dFdct8 s
  | .k1dFdct16 => Sys2Proof.Machine.execK1dFdct16 s
  | .k1dFdct32 => Sys2Proof.Machine.execK1dFdct32 s
  | .k1dFdct64 => Sys2Proof.Machine.execK1dFdct64 s
  | .k1dFadst4 => Sys2Proof.Machine.execK1dFadst4 s
  | .k1dFadst8 => Sys2Proof.Machine.execK1dFadst8 s
  | .k1dFadst16 => Sys2Proof.Machine.execK1dFadst16 s
  | .k1dFhalfright32 => Sys2Proof.Machine.execK1dFhalfright32 s
  | .k1dFhalfright64 => Sys2Proof.Machine.execK1dFhalfright64 s
  | .k1dFidtx4 => Sys2Proof.Machine.execK1dFidtx4 s
  | .k1dFidtx8 => Sys2Proof.Machine.execK1dFidtx8 s
  | .k1dFidtx16 => Sys2Proof.Machine.execK1dFidtx16 s
  | .k1dFidtx32 => Sys2Proof.Machine.execK1dFidtx32 s
  | .k1dFidtx64 => Sys2Proof.Machine.execK1dFidtx64 s
  | .k1dWht4 => Sys2Proof.Machine.execK1dWht4 s

end Sys2Proof.Machine
end

