-- ==== Sys2Proof/Machine/HostPort.lean ====
section
/-! DEFINITION. Machine/HostPort.lean: what one action of a host or of the platform does (spec/10_state.md R17 to R25, 20_memory.md R54, R55,
R60, 30_encoding.md R73, R76, 60_exceptions.md R205, R212, 70_reset_and_hazards.md R230). -/

namespace Sys2Proof.Machine

/-- An action on engine `e`: it comes into `eng`, and the action runs on it. -/
def onEngine (e : Nat) (act : State → Host.Outcome State Fault Refusal) (s : State) : Host.Outcome State Fault Refusal :=
  match focus e s with
  | none => .refused .noSuchEngine
  | some t => act t

/-- `RegWrite(CMD, v)`: ignored by a FAULTED engine (10_state.md R22, 60_exceptions.md R205); on an IDLE one CMD is stored and the
word is decoded and executed in the same step (R73). -/
def writeCmd (v : Word) (s : State) : Host.Outcome State Fault Refusal :=
  match s.eng.run with
  | .faulted => .next s
  | .idle =>
    match decode v with
    | .reject _ => .next (raise .illegalEntry (startCommand v s))
    | .ok i => exec i (startCommand v s)

/-- `RegWrite(off, v)` (R60). -/
def regWrite (off width : Nat) (v : Word) (s : State) : Host.Outcome State Fault Refusal :=
  if regAccessOk off width then
    if off = 0x10 then writeCmd v s else .next { s with eng := regStore s.eng off v }
  else .refused .registerAccess

/-- `RegRead(off)`: the value goes to the host, here to the model's `rdata` (log entry 8); nothing else changes (R60). -/
def regRead (off width : Nat) (s : State) : Host.Outcome State Fault Refusal :=
  if regAccessOk off width then .next { s with rdata := regValue s.eng off } else .refused .registerAccess

/-- The bytes of a host store (R76). -/
def storeBytes : StoreWidth → Nat
  | .st8 => 1
  | .st16 => 2
  | .st32 => 4

/-- The host's own store of the low bytes of `v`, little-endian (20_memory.md R41; log entry 10). -/
def hostStore (w : StoreWidth) (addr v : Word) (s : State) : Host.Outcome State Fault Refusal :=
  if Config.memBytes < addr.toNat + storeBytes w then .fault .noSuchAddress
  else if admits s.holes addr.toNat (storeBytes w) then
    .next { s with mem := memWrite s.mem addr.toNat (storeBytes w) v.toNat }
  else .fault .notAdmitted

/-- The host's own 4-byte load (R76; log entry 10). -/
def hostLoad (addr : Word) (s : State) : Host.Outcome State Fault Refusal :=
  if Config.memBytes < addr.toNat + 4 then .fault .noSuchAddress
  else if admits s.holes addr.toNat 4 then .next { s with rdata := BitVec.ofNat 32 (memRead s.mem addr.toNat 4) }
  else .fault .notAdmitted

/-! ### The hosts' own synchronisation, the model's record of it (20_memory.md R55, R56; log entry 9) -/

/-- All hosts synchronise: no command so far is concurrent with a later one. -/
def hostSync (s : State) : State := { s with window := [] }

/-- The current host signals `token`: the commands ordered before it travel with the signal. -/
def hostSignal (token : Nat) (s : State) : State :=
  { s with window := s.window.map fun g => if g.orderedBefore s.host then { g with tokens := token :: g.tokens } else g }

/-- The current host has waited for `token`: the commands that travelled with it are ordered before this host. -/
def hostWait (token : Nat) (s : State) : State :=
  { s with window := s.window.map fun g => if token ∈ g.tokens then { g with after := s.host :: g.after } else g }

/-- One action. -/
def hostAction (act : HostAction) (s : State) : Host.Outcome State Fault Refusal :=
  match act with
  | .regWrite e off width v => onEngine e (regWrite off width v) s
  | .regRead e off width => onEngine e (regRead off width) s
  | .store w addr v => hostStore w addr v s
  | .load addr => hostLoad addr s
  | .reset e => onEngine e (fun t => .next (resetEngine t)) s
  | .sync => .next (hostSync s)
  | .signal token => .next (hostSignal token s)
  | .wait token => .next (hostWait token s)

/-- The next action of the total order (20_memory.md R54), once it has left the queue. -/
def hostStep (op : HostOp) (s : State) : Host.Outcome State Fault Refusal :=
  hostAction op.act { s with host := op.host }

end Sys2Proof.Machine
end

