-- ==== Sys2Proof/Machine/Step.lean ====
section
/-! DEFINITION. Machine/Step.lean: one step of the system, and how a command word is put before it. -/

namespace Sys2Proof.Machine

/-- The next action of the hosts and the platform; with none pending every engine holds its registers and nothing happens
(spec/60_exceptions.md R214). An engine fetches nothing (10_state.md R15): a command runs when a `RegWrite(CMD)` is the action. -/
def step (s : State) : Host.Outcome State Fault Refusal :=
  match s.pending with
  | [] => .next s
  | op :: rest => hostStep op { s with pending := rest }

/-- The command word `w` as the next thing that happens: a `RegWrite(CMD, w)` of the current host on the current engine, before
the actions already pending (log entry 7). The word is 32 bits whatever `nbits` says. -/
def State.withFetchWord (s : State) (_nbits w : Nat) : State :=
  { s with
    pending := { host := s.host, act := .regWrite s.lower.length 0x10 4 (BitVec.ofNat 32 w) } :: s.pending }

end Sys2Proof.Machine
end

