-- ==== Sys2Proof/Safety.lean ====
section
/-! DEFINITION. Safety.lean: the legal states, and the words in which the statements speak of runs and of memory. -/

namespace Sys2Proof.Machine

/-- The STATUS a fault leaves in an engine whose reserved bits read 0 (spec/10_state.md R23, 60_exceptions.md R204). -/
def faultStatus (c : Cause) : Word := 2#32 ||| ((causeCode c).setWidth 32 <<< 4)

/-- What holds of every engine between two steps (10_state.md R18, R23, R24, R34; 60_exceptions.md R204, R205). -/
structure EngineOk (e : Engine) : Prop where
  /-- CAP bits 31:1 read 0. -/
  cap : e.cap = 0 ∨ e.cap = 1
  /-- An IDLE engine shows no fault and no cause, reserved bits 0, and FINFO 0. -/
  idle : e.run = .idle → (e.status = 0 ∨ e.status = 1) ∧ e.finfo = 0
  /-- A FAULTED engine shows FAULT, one of the four causes, not DONE, and the faulting word. -/
  faulted : e.run = .faulted → (∃ c, e.status = faultStatus c) ∧ e.finfo = e.cmd

/-- The invariant of the system: the memory has its canonical form and every engine is legal. -/
structure State.Inv (s : State) : Prop where
  mem : s.mem.wf = true
  engines : ∀ e ∈ s.engines, EngineOk e

/-- Everything of an engine the host can see (10_state.md R13, column "visible to host"). -/
structure Visible where
  cap : Word
  src : Word
  stride : Word
  dst : Word
  cmd : Word
  status : Word
  finfo : Word
  run : RunState
deriving DecidableEq, Repr

/-- The visible part of an engine. -/
def Engine.visible (e : Engine) : Visible where
  cap := e.cap
  src := e.src
  stride := e.stride
  dst := e.dst
  cmd := e.cmd
  status := e.status
  finfo := e.finfo
  run := e.run

/-- The conditions a host must meet before a command with operands (70_reset_and_hazards.md R232 (c), (d), and for
concurrent commands 20_memory.md R55): aligned, no region wraps, the output region meets neither the input region nor, where R55
forbids it, a region of a concurrent command, and every access is admitted. -/
structure Ready (t : Transfer) (s : State) : Prop where
  aligned : misaligned t s.eng = false
  regions : regionRefusal t s = none
  reads : readsAdmitted t s = true
  writes : writesAdmitted t s = true

/-- Reading a byte of `m'` outside a span gives what reading it of `m` gives. -/
def SameOutside (a : Span) (m m' : Memory) : Prop :=
  ∀ k, ¬ (a.start ≤ k ∧ k < a.start + a.len) → readByte m' k = readByte m k

/-- The `FHT<W>X<H>` command of a shape (30_encoding.md R68). -/
def fhtInstr : Shape → BitVec 8 → Bool → Instr
  | .s4x4 => .fht4x4
  | .s8x8 => .fht8x8
  | .s16x16 => .fht16x16
  | .s32x32 => .fht32x32
  | .s64x64 => .fht64x64
  | .s4x8 => .fht4x8
  | .s8x4 => .fht8x4
  | .s8x16 => .fht8x16
  | .s16x8 => .fht16x8
  | .s16x32 => .fht16x32
  | .s32x16 => .fht32x16
  | .s32x64 => .fht32x64
  | .s64x32 => .fht64x32
  | .s4x16 => .fht4x16
  | .s16x4 => .fht16x4
  | .s8x32 => .fht8x32
  | .s32x8 => .fht32x8
  | .s16x64 => .fht16x64
  | .s64x16 => .fht64x16

/-- The `K1D.<kernel>` command of a kernel (30_encoding.md R70). -/
def k1dInstr : Kernel → Instr
  | .fdct4 => .k1dFdct4
  | .fdct8 => .k1dFdct8
  | .fdct16 => .k1dFdct16
  | .fdct32 => .k1dFdct32
  | .fdct64 => .k1dFdct64
  | .fadst4 => .k1dFadst4
  | .fadst8 => .k1dFadst8
  | .fadst16 => .k1dFadst16
  | .fhalfright32 => .k1dFhalfright32
  | .fhalfright64 => .k1dFhalfright64
  | .fidtx4 => .k1dFidtx4
  | .fidtx8 => .k1dFidtx8
  | .fidtx16 => .k1dFidtx16
  | .fidtx32 => .k1dFidtx32
  | .fidtx64 => .k1dFidtx64
  | .wht4 => .k1dWht4

/-- What a command that reads `t` and completed with the output `words` has done (46_transform_2d.md R159, 47_repack_and_misc_commands.md R192,
R193; 20_memory.md R43, R46): output word `k` stands little-endian at `DST + 4k`, no other byte of memory differs, DONE is set
and nothing else the host can see of this engine or of another differs. The model's own record of the command is the last
clause. -/
structure Completed (t : Transfer) (words : List Lane) (s s' : State) : Prop where
  length : words.length = t.nout
  stored : ∀ k, k < t.nout → memRead s'.mem (outAddr s.eng k) 4 = (words.getD k 0).toNat
  outside : ∀ a, (∀ k, k < t.nout → ¬ (outAddr s.eng k ≤ a ∧ a < outAddr s.eng k + 4)) → readByte s'.mem a = readByte s.mem a
  registers : s'.eng.visible = { s.eng.visible with status := setDone s.eng.status }
  others : s'.lower = s.lower ∧ s'.upper = s.upper
  hosts : s'.holes = s.holes ∧ s'.pending = s.pending ∧ s'.host = s.host ∧ s'.rdata = s.rdata
  recorded : s'.window = footprint t s :: s.window

/-! ### The fields of a command word as numbers (30_encoding.md R65), for the statements -/

/-- Bits 31:21. -/
def wReserved (v : Word) : Nat := v.toNat / 2 ^ 21
/-- Bit 20. -/
def wHbd (v : Word) : Nat := v.toNat / 2 ^ 20 % 2
/-- Bits 19:16. -/
def wOpc (v : Word) : Nat := v.toNat / 2 ^ 16 % 16
/-- Bits 15:8. -/
def wSel (v : Word) : Nat := v.toNat / 2 ^ 8 % 256
/-- Bits 7:0. -/
def wTxType (v : Word) : Nat := v.toNat % 256

/-- The shape codes of 30_encoding.md R68. -/
def shapeOfCode : Nat → Option Shape
  | 0 => some .s4x4
  | 1 => some .s8x8
  | 2 => some .s16x16
  | 3 => some .s32x32
  | 4 => some .s64x64
  | 5 => some .s4x8
  | 6 => some .s8x4
  | 7 => some .s8x16
  | 8 => some .s16x8
  | 9 => some .s16x32
  | 10 => some .s32x16
  | 11 => some .s32x64
  | 12 => some .s64x32
  | 13 => some .s4x16
  | 14 => some .s16x4
  | 15 => some .s8x32
  | 16 => some .s32x8
  | 17 => some .s16x64
  | 18 => some .s64x16
  | _ => none

/-- The kernel ids of 30_encoding.md R70. -/
def kernelOfId : Nat → Option Kernel
  | 0 => some .fdct4
  | 1 => some .fdct8
  | 2 => some .fdct16
  | 3 => some .fdct32
  | 4 => some .fdct64
  | 8 => some .fadst4
  | 9 => some .fadst8
  | 10 => some .fadst16
  | 11 => some .fhalfright32
  | 12 => some .fhalfright64
  | 16 => some .fidtx4
  | 17 => some .fidtx8
  | 18 => some .fidtx16
  | 19 => some .fidtx32
  | 20 => some .fidtx64
  | 24 => some .wht4
  | _ => none

/-- The words of 30_encoding.md R72: they raise ILLEGAL_ENTRY. -/
def IllegalWord (v : Word) : Prop :=
  wReserved v ≠ 0 ∨ 4 ≤ wOpc v ∨
  (wOpc v = 0 ∧ (wSel v ≠ 0 ∨ wTxType v ≠ 0 ∨ wHbd v ≠ 0)) ∨
  (wOpc v = 1 ∧ 18 < wSel v) ∨
  (wOpc v = 2 ∧ (wSel v ≠ 0 ∨ wTxType v ≠ 0)) ∨
  (wOpc v = 3 ∧ (kernelOfId (wSel v) = none ∨ wTxType v ≠ 0 ∨ wHbd v ≠ 0))

/-! ### The commands that touch memory, by form -/

/-- A command with operands in memory: an `FHT*` of a legal type, `FWHT4X4`, a `K1D.*`. -/
inductive MemCommand where
  | block (sh : Shape) (t : TxType) (hbd : Bool)
  | wht (hbd : Bool)
  | vector (k : Kernel)
deriving DecidableEq, Repr

/-- The code of a transform type (30_encoding.md R69). -/
def txCode : TxType → BitVec 8
  | .dctDct => 0
  | .adstDct => 1
  | .dctAdst => 2
  | .adstAdst => 3
  | .flipadstDct => 4
  | .dctFlipadst => 5
  | .flipadstFlipadst => 6
  | .adstFlipadst => 7
  | .flipadstAdst => 8
  | .idtx => 9
  | .vDct => 10
  | .hDct => 11
  | .vAdst => 12
  | .hAdst => 13
  | .vFlipadst => 14
  | .hFlipadst => 15

/-- The command itself. -/
def MemCommand.instr : MemCommand → Instr
  | .block sh t hbd => fhtInstr sh (txCode t) hbd
  | .wht hbd => .fwht4x4 hbd
  | .vector k => k1dInstr k

/-- NOUT as the table of 47_repack_and_misc_commands.md R191 gives it. -/
def noutTable : Shape → Nat
  | .s4x4 => 16
  | .s8x8 => 64
  | .s16x16 => 256
  | .s32x32 => 1024
  | .s64x64 => 1024
  | .s4x8 => 32
  | .s8x4 => 32
  | .s8x16 => 128
  | .s16x8 => 128
  | .s16x32 => 512
  | .s32x16 => 512
  | .s32x64 => 1024
  | .s64x32 => 1024
  | .s4x16 => 64
  | .s16x4 => 64
  | .s8x32 => 256
  | .s32x8 => 256
  | .s16x64 => 512
  | .s64x16 => 512

/-- What the command reads and writes (20_memory.md R42 to R44, R46). -/
def MemCommand.transfer (e : Engine) : MemCommand → Transfer
  | .block sh _ hbd => blockTransfer (shapeWidth sh) (shapeHeight sh) hbd (noutTable sh) e
  | .wht hbd => blockTransfer 4 4 hbd 16 e
  | .vector k => vectorTransfer (kernelLen k) e

/-- What the command computes, as its meaning does. -/
def MemCommand.work (m : Memory) (e : Engine) : MemCommand → Work
  | .block sh t hbd => blockWork sh t (shapeBlock sh t hbd m e) e
  | .wht hbd => whtWork (whtBlock hbd m e) e
  | .vector k => vectorWork k (inputVector (kernelLen k) m e) e

/-- The number of output words. -/
def MemCommand.nout : MemCommand → Nat
  | .block sh _ _ => noutTable sh
  | .wht _ => 16
  | .vector k => kernelLen k

/-- The size of each of its reads, which is also what SRC must be a multiple of (20_memory.md R45). -/
def MemCommand.readSize : MemCommand → Nat
  | .block _ _ hbd => if hbd then 2 else 1
  | .wht hbd => if hbd then 2 else 1
  | .vector _ => 4

/-- Byte `a` belongs to the input region: to input sample `(r, c)` or input word `i` (20_memory.md R46). -/
def MemCommand.InputByte (e : Engine) (a : Nat) : MemCommand → Prop
  | .block sh _ hbd => ∃ r c j, r < shapeHeight sh ∧ c < shapeWidth sh ∧ j < sampleBytes hbd ∧ a = sampleAddr e hbd r c + j
  | .wht hbd => ∃ r c j, r < 4 ∧ c < 4 ∧ j < sampleBytes hbd ∧ a = sampleAddr e hbd r c + j
  | .vector k => ∃ i j, i < kernelLen k ∧ j < 4 ∧ a = wordAddr e i + j

/-- Byte `a` belongs to the output region (20_memory.md R46). -/
def MemCommand.OutputByte (e : Engine) (a : Nat) (i : MemCommand) : Prop :=
  ∃ k j, k < i.nout ∧ j < 4 ∧ a = outAddr e k + j

/-- The input or the output region wraps past address `2^32 - 1` (20_memory.md R47), read off the addresses before they are
reduced modulo `2^32`. -/
def MemCommand.Wraps (e : Engine) (i : MemCommand) : Prop :=
  2 ^ 32 < e.dst.toNat + 4 * i.nout ∨
  match i with
  | .block sh _ hbd => ∃ r c, r < shapeHeight sh ∧ c < shapeWidth sh ∧
      2 ^ 32 < e.src.toNat + (r * e.stride.toNat + c) * sampleBytes hbd + sampleBytes hbd
  | .wht hbd => ∃ r c, r < 4 ∧ c < 4 ∧ 2 ^ 32 < e.src.toNat + (r * e.stride.toNat + c) * sampleBytes hbd + sampleBytes hbd
  | .vector k => 2 ^ 32 < e.src.toNat + 4 * kernelLen k

/-! ### Engines and actions -/

/-- The engine an action addresses. -/
def addressed : HostAction → Option Nat
  | .regWrite e _ _ _ => some e
  | .regRead e _ _ => some e
  | .reset e => some e
  | .store _ _ _ => none
  | .load _ => none
  | .sync => none
  | .signal _ => none
  | .wait _ => none

/-- A byte address lies in a span. -/
def Span.has (x : Span) (a : Nat) : Prop := x.start ≤ a ∧ a < x.start + x.len

/-! ### Grids and types -/

/-- Element `(r, c)` of a grid of rows. -/
def at2 (g : List (List Lane)) (r c : Nat) : Lane := lane (g.getD r []) c

/-- The shape with the sides exchanged. -/
def turned : Shape → Shape
  | .s4x4 => .s4x4
  | .s8x8 => .s8x8
  | .s16x16 => .s16x16
  | .s32x32 => .s32x32
  | .s64x64 => .s64x64
  | .s4x8 => .s8x4
  | .s8x4 => .s4x8
  | .s8x16 => .s16x8
  | .s16x8 => .s8x16
  | .s16x32 => .s32x16
  | .s32x16 => .s16x32
  | .s32x64 => .s64x32
  | .s64x32 => .s32x64
  | .s4x16 => .s16x4
  | .s16x4 => .s4x16
  | .s8x32 => .s32x8
  | .s32x8 => .s8x32
  | .s16x64 => .s64x16
  | .s64x16 => .s16x64

/-- The type with the kinds of the two axes exchanged (46_transform_2d.md R179 (e)). -/
def swapped : TxType → TxType
  | .dctDct => .dctDct
  | .adstDct => .dctAdst
  | .dctAdst => .adstDct
  | .adstAdst => .adstAdst
  | .flipadstDct => .dctFlipadst
  | .dctFlipadst => .flipadstDct
  | .flipadstFlipadst => .flipadstFlipadst
  | .adstFlipadst => .flipadstAdst
  | .flipadstAdst => .adstFlipadst
  | .idtx => .idtx
  | .vDct => .hDct
  | .hDct => .vDct
  | .vAdst => .hAdst
  | .hAdst => .vAdst
  | .vFlipadst => .hFlipadst
  | .hFlipadst => .vFlipadst

/-- The unflipped partner of a flipping type (45_flip.md R144); a type that does not flip is its own. -/
def partner : TxType → TxType
  | .flipadstDct => .adstDct
  | .dctFlipadst => .dctAdst
  | .flipadstFlipadst => .adstAdst
  | .adstFlipadst => .adstAdst
  | .flipadstAdst => .adstAdst
  | .vFlipadst => .vAdst
  | .hFlipadst => .hAdst
  | t => t

/-! ### The inverse of the Walsh-Hadamard transform (44_identity_wht_kernels.md R135, a test aid: no command performs it) -/

/-- One inverse pass, on exact integers. -/
def iwht4 (a c d b : Int) : Int × Int × Int × Int :=
  let a1 := a + c
  let d1 := d - b
  let e1 := (a1 - d1) / 2
  let b1 := e1 - b
  let c1 := e1 - c
  (a1 - b1, b1, c1, d1 + c1)

/-- Element `i` of a quadruple. -/
def pick4 (q : Int × Int × Int × Int) (i : Nat) : Int :=
  match i with
  | 0 => q.1
  | 1 => q.2.1
  | 2 => q.2.2.1
  | _ => q.2.2.2

/-- Element `(r, c)` of the inverse of `FWHT4X4`: the words divided by 4, the inverse pass on the columns and then on the rows. -/
def iwht4x4 (word : Nat → Int) (r c : Nat) : Int :=
  let g := fun i j => word (4 * i + j) / 4
  let column := fun j => iwht4 (g 0 j) (g 1 j) (g 2 j) (g 3 j)
  pick4 (iwht4 (pick4 (column 0) r) (pick4 (column 1) r) (pick4 (column 2) r) (pick4 (column 3) r)) c

end Sys2Proof.Machine
end

