-- ==== Sys2Proof/WellFormed.lean ====
section
/-! DEFINITION. WellFormed.lean: what makes a command well formed: a transform type of the enumeration
(30_encoding.md R69: codes 0 to 15). A word with a larger TXTYPE still selects its row's entry point and faults
TXTYPE_RANGE when it executes (R72, R74). -/

namespace Sys2Proof

/-- TXTYPE is one of the sixteen codes of R69. -/
def txTypeOk (tt : BitVec 8) : Bool := decide (tt.toNat ≤ 15)

/-- Well-formedness of a command; only the `FHT*` commands have an operand that can be wrong. -/
def Instr.WellFormed : Instr → Bool
  | .nop => true
  | .fht4x4 tt _ => txTypeOk tt
  | .fht8x8 tt _ => txTypeOk tt
  | .fht16x16 tt _ => txTypeOk tt
  | .fht32x32 tt _ => txTypeOk tt
  | .fht64x64 tt _ => txTypeOk tt
  | .fht4x8 tt _ => txTypeOk tt
  | .fht8x4 tt _ => txTypeOk tt
  | .fht8x16 tt _ => txTypeOk tt
  | .fht16x8 tt _ => txTypeOk tt
  | .fht16x32 tt _ => txTypeOk tt
  | .fht32x16 tt _ => txTypeOk tt
  | .fht32x64 tt _ => txTypeOk tt
  | .fht64x32 tt _ => txTypeOk tt
  | .fht4x16 tt _ => txTypeOk tt
  | .fht16x4 tt _ => txTypeOk tt
  | .fht8x32 tt _ => txTypeOk tt
  | .fht32x8 tt _ => txTypeOk tt
  | .fht16x64 tt _ => txTypeOk tt
  | .fht64x16 tt _ => txTypeOk tt
  | .fwht4x4 _ => true
  | .k1dFdct4 => true
  | .k1dFdct8 => true
  | .k1dFdct16 => true
  | .k1dFdct32 => true
  | .k1dFdct64 => true
  | .k1dFadst4 => true
  | .k1dFadst8 => true
  | .k1dFadst16 => true
  | .k1dFhalfright32 => true
  | .k1dFhalfright64 => true
  | .k1dFidtx4 => true
  | .k1dFidtx8 => true
  | .k1dFidtx16 => true
  | .k1dFidtx32 => true
  | .k1dFidtx64 => true
  | .k1dWht4 => true

end Sys2Proof
end

