-- ==== Sys2Proof/Certificates/Slice0/Obligations.lean ====
section
/-! DEFINITION. Certificates/Slice0/Obligations.lean: the statements about the model, by subject. -/

section Statements
open Sys2Proof Sys2Proof.Machine

/-! ### Encoding (spec/30_encoding.md) -/

/-- Decoding the word of a command gives the command back, every operand at every value its field admits (R77, R65). -/
def Obligations.DecodeEncode : Prop := ∀ i : Instr, decode (encode i) = .ok i

/-- A word the decoder accepts is the word of the command it answers: no bit of it is dropped (R65, R66, R77). -/
def Obligations.EncodeDecode : Prop := ∀ (w : Word) (i : Instr), decode w = .ok i → encode i = w

/-- R72. An idle engine faults ILLEGAL_ENTRY on exactly the illegal words, TXTYPE_RANGE on a good shape with a bad type, and
faults on every word that is not the word of one of the 37 commands with a legal type. -/
def Obligations.IllegalWords : Prop :=
  ∀ (s : State) (v : Word), s.eng.run = .idle →
    (IllegalWord v → writeCmd v s = .next (raise .illegalEntry (startCommand v s))) ∧
    (¬ IllegalWord v → ∃ i, decode v = .ok i) ∧
    (wReserved v = 0 → wOpc v = 1 → wSel v ≤ 18 → 15 < wTxType v →
      writeCmd v s = .next (raise .txtypeRange (startCommand v s))) ∧
    ((∀ i : Instr, i.WellFormed = true → v ≠ encode i) → ∃ c, writeCmd v s = .next (raise c (startCommand v s)))

/-- The example words of R77 and of 95_test_vectors.md Part 7, one or more of each class. -/
def Obligations.WordExamples : Prop :=
  decode 0x00000000 = .ok .nop ∧
  decode 0x00010101 = .ok (.fht8x8 1 false) ∧
  decode 0x0011120F = .ok (.fht64x16 15 true) ∧
  decode 0x00110605 = .ok (.fht8x4 5 true) ∧
  decode 0x00020000 = .ok (.fwht4x4 false) ∧
  decode 0x00120000 = .ok (.fwht4x4 true) ∧
  decode 0x00030A00 = .ok .k1dFadst16 ∧
  decode 0x00031800 = .ok .k1dWht4 ∧
  decode 0x00011300 = .reject .noSuchShape ∧
  decode 0x00030500 = .reject .noSuchKernel ∧
  decode 0x00200000 = .reject .reservedBits

/-- R74. A word decodes to a command of a row exactly when it matches the row; the masks leave TXTYPE and HBD free for `FHT*`, HBD for
`FWHT4X4`, nothing for the others; a word matches the rows of two commands only if they are one row. -/
def Obligations.RowsOfTheTable : Prop :=
  (∀ (w : Word) (i : Instr), w &&& rowMask i = rowMatch i ↔ ∃ j, decode w = .ok j ∧ rowMask j = rowMask i ∧ rowMatch j = rowMatch i) ∧
  (∀ sh tt hbd, rowMask (fhtInstr sh tt hbd) = 0xFFEFFF00) ∧
  (∀ hbd, rowMask (.fwht4x4 hbd) = 0xFFEFFFFF) ∧
  (∀ k, rowMask (k1dInstr k) = 0xFFFFFFFF) ∧
  rowMask .nop = 0xFFFFFFFF ∧
  (∀ (w : Word) (i j : Instr), w &&& rowMask i = rowMatch i → w &&& rowMask j = rowMatch j →
    rowMask i = rowMask j ∧ rowMatch i = rowMatch j)

/-! ### The step, the registers, the engines (10_state.md, 20_memory.md R60, 60_exceptions.md, 70_reset_and_hazards.md) -/

/-- When the next action writes to CMD of an idle engine a word that decodes to `i`, the step stores the word and is `exec i` at
that state, the action gone from the queue; `withFetchWord` puts such an action first. The queue is the model's (log entry 7). -/
def Obligations.StepRunsDecoded : Prop :=
  (∀ (s t : State) (h e : Nat) (v : Word) (rest : List HostOp) (i : Instr),
    s.pending = { host := h, act := .regWrite e 0x10 4 v } :: rest →
    focus e { s with pending := rest, host := h } = some t → t.eng.run = .idle → decode v = .ok i →
    step s = exec i (startCommand v t)) ∧
  ∀ (s : State) (n w : Nat) (i : Instr), s.eng.run = .idle → decode (BitVec.ofNat 32 w) = .ok i →
    step (s.withFetchWord n w) = exec i (startCommand (BitVec.ofNat 32 w) s)

/-- What a register read returns, at every offset of the window, and that it changes nothing else (R17 to R25, R60); an
access of another width or at a misaligned offset is refused (R60), and so is, by the model's reading (log entry 11, DEDUCED), one at an
offset above 0x1C. The value read stands in the model's own `rdata` (log entry 8). -/
def Obligations.RegisterReads : Prop :=
  (∀ (s t : State) (e : Nat), focus e s = some t →
    hostAction (.regRead e 0x00 4) s = .next { t with rdata := t.eng.cap } ∧
    hostAction (.regRead e 0x04 4) s = .next { t with rdata := t.eng.src } ∧
    hostAction (.regRead e 0x08 4) s = .next { t with rdata := t.eng.stride } ∧
    hostAction (.regRead e 0x0C 4) s = .next { t with rdata := t.eng.dst } ∧
    hostAction (.regRead e 0x10 4) s = .next { t with rdata := t.eng.cmd } ∧
    hostAction (.regRead e 0x14 4) s = .next { t with rdata := t.eng.status } ∧
    hostAction (.regRead e 0x18 4) s = .next { t with rdata := t.eng.finfo } ∧
    hostAction (.regRead e 0x1C 4) s = .next { t with rdata := 0 }) ∧
  ∀ (s t : State) (e off width : Nat) (v : Word), focus e s = some t → (width ≠ 4 ∨ off % 4 ≠ 0 ∨ 0x1C < off) →
    hostAction (.regRead e off width) s = .refused .registerAccess ∧
    hostAction (.regWrite e off width v) s = .refused .registerAccess

/-- What a register write does at every offset but CMD, to an idle and to a faulted engine alike (R18 to R21, R23 to R25, R205):
SRC, STRIDE and DST store all 32 bits, the others ignore it. -/
def Obligations.RegisterWrites : Prop :=
  ∀ (s t : State) (e : Nat) (v : Word), focus e s = some t →
    hostAction (.regWrite e 0x04 4 v) s = .next { t with eng := { t.eng with src := v } } ∧
    hostAction (.regWrite e 0x08 4 v) s = .next { t with eng := { t.eng with stride := v } } ∧
    hostAction (.regWrite e 0x0C 4 v) s = .next { t with eng := { t.eng with dst := v } } ∧
    ∀ off, off = 0x00 ∨ off = 0x14 ∨ off = 0x18 ∨ off = 0x1C → hostAction (.regWrite e off 4 v) s = .next t

/-- R22. A write of CMD to an idle engine stores the word, and whatever the command does, CMD then holds it and CAP, SRC, STRIDE and DST are
what they were; a faulted engine ignores the write; a read returns the last value stored. -/
def Obligations.CommandRegister : Prop :=
  (∀ (s s' : State) (v : Word), s.eng.run = .idle → writeCmd v s = .next s' →
    s'.eng.cmd = v ∧ s'.eng.cap = s.eng.cap ∧ s'.eng.src = s.eng.src ∧ s'.eng.stride = s.eng.stride ∧ s'.eng.dst = s.eng.dst) ∧
  (∀ (s : State) (v : Word), s.eng.run = .faulted → writeCmd v s = .next s) ∧
  ∀ (s s' : State) (v : Word) (e : Nat), s.lower.length = e → s.eng.run = .idle → writeCmd v s = .next s' →
    hostAction (.regRead e 0x10 4) s' = .next { s' with rdata := v }

/-- R212, R213. An action leaves every engine it does not address as it was, in number and place, and no action changes a CAP. -/
def Obligations.OtherEngines : Prop :=
  ∀ (s s' : State) (op : HostOp), hostStep op s = .next s' →
    s'.engines.length = s.engines.length ∧
    (∀ k, addressed op.act ≠ some k → s'.engines[k]? = s.engines[k]?) ∧
    s'.engines.map Engine.cap = s.engines.map Engine.cap

/-- An action on an engine the system does not have is refused by name (R212; the refusal is the model's, log entry 2). -/
def Obligations.NoSuchEngine : Prop :=
  ∀ (s : State) (e off width : Nat) (v : Word), s.engines.length ≤ e →
    hostAction (.regWrite e off width v) s = .refused .noSuchEngine ∧
    hostAction (.regRead e off width) s = .refused .noSuchEngine ∧
    hostAction (.reset e) s = .refused .noSuchEngine

/-- R205. A faulted engine ignores a write of CMD altogether, still stores SRC, STRIDE and DST and answers reads, and whatever happens but
its own reset, it stays faulted with the same STATUS, FINFO and CMD. -/
def Obligations.FaultedStays : Prop :=
  (∀ (s : State) (v : Word), s.eng.run = .faulted →
    regWrite 0x10 4 v s = .next s ∧
    regWrite 0x04 4 v s = .next { s with eng := { s.eng with src := v } } ∧
    regWrite 0x08 4 v s = .next { s with eng := { s.eng with stride := v } } ∧
    regWrite 0x0C 4 v s = .next { s with eng := { s.eng with dst := v } } ∧
    ∀ off, off % 4 = 0 → off ≤ 0x1C → regRead off 4 s = .next { s with rdata := regValue s.eng off }) ∧
  ∀ (s s' : State) (op : HostOp) (k : Nat) (e : Engine), hostStep op s = .next s' → s.engines[k]? = some e → e.run = .faulted →
    op.act ≠ .reset k →
    ∃ e', s'.engines[k]? = some e' ∧ e'.run = .faulted ∧ e'.status = e.status ∧ e'.finfo = e.finfo ∧ e'.cmd = e.cmd

/-- R230, R206. `Reset(e)` zeroes SRC, STRIDE, DST, CMD, STATUS and FINFO of engine `e`, makes it IDLE and keeps CAP; it touches no data memory and no
other engine. (What it leaves in the scratch is the model's choice, log entry 5, and is not stated.) -/
def Obligations.ResetEvent : Prop :=
  ∀ (s : State) (k : Nat) (e : Engine), s.engines[k]? = some e →
    ∃ s' e', hostAction (.reset k) s = .next s' ∧ s'.engines = s.engines.set k e' ∧ s'.mem = s.mem ∧
      e'.visible = { cap := e.cap, src := 0, stride := 0, dst := 0, cmd := 0, status := 0, finfo := 0, run := .idle }

/-- R35. After power-up there is at least one engine, each shows DEBUG_CHECKS in CAP and zero in every other register, is IDLE, and
no host action is pending (the queue is the model's, log entry 7). -/
def Obligations.ResetState : Prop :=
  State.reset.engines ≠ [] ∧
  (∀ e ∈ State.reset.engines, e.visible =
    { cap := capWord Config.debugChecks, src := 0, stride := 0, dst := 0, cmd := 0, status := 0, finfo := 0, run := .idle }) ∧
  (∀ b : Bool, (capWord b).getLsbD 0 = b ∧ capWord b >>> 1 = 0) ∧
  State.reset.pending = []

/-- The state after power-up meets the invariant. That its memory lists nothing is the model's choice (log entry 4). -/
def Obligations.ResetMeetsInv : Prop := State.reset.Inv

/-- Every step keeps the invariant: the canonical form of memory, CAP's and STATUS's reserved bits zero, DONE and FAULT never both set, a
cause exactly with a fault, STATUS.FAULT exactly when FAULTED, FINFO the faulting word or 0 (R18, R23, R24, R34). -/
def Obligations.StepKeepsInv : Prop :=
  ∀ s s' : State, s.Inv → step s = .next s' → s'.Inv

/-! ### Faults (60_exceptions.md) -/

/-- R204. Taking a fault clears DONE, sets FAULT, records the cause, copies CMD into FINFO, makes the engine FAULTED, keeps STATUS's other bits,
and changes nothing else; and when a write of CMD ends in a fault, of whatever cause, this is all that the host can see of it: no
byte of memory and no other engine has changed. -/
def Obligations.RaiseFault : Prop :=
  (∀ (c : Cause) (s : State),
    let e := (raise c s).eng
    statusDone e.status = false ∧ statusFault e.status = true ∧ statusCause e.status = causeCode c ∧
    e.status &&& 0xFFFFFF0C#32 = s.eng.status &&& 0xFFFFFF0C#32 ∧
    e.finfo = s.eng.cmd ∧ e.run = .faulted ∧
    raise c s = { s with eng := { s.eng with status := e.status, finfo := e.finfo, run := e.run } } ∧
    [causeCode .txtypeRange, causeCode .illegalEntry, causeCode .rangeBudget, causeCode .operandAlign] = [1, 2, 3, 4]) ∧
  ∀ (s s' : State) (v : Word), s.eng.run = .idle → writeCmd v s = .next s' → s'.eng.run = .faulted →
    s'.mem = s.mem ∧ s'.lower = s.lower ∧ s'.upper = s.upper ∧
    ∃ c, s'.eng.visible =
      { s.eng.visible with cmd := v, status := setFault c s.eng.status, finfo := v, run := .faulted }

/-- R73. What a write of CMD to an idle engine does: the checks in their order, then the command; and DONE is set exactly when
nothing faulted. -/
def Obligations.DecodeAndExecute : Prop :=
  ∀ (s : State) (v : Word), s.eng.run = .idle →
    let s1 := startCommand v s
    let illegal := Host.Outcome.next (raise .illegalEntry s1)
    let align := Host.Outcome.next (raise .operandAlign s1)
    writeCmd v s =
      (if wReserved v ≠ 0 then illegal
       else if wOpc v = 0 then
         if wSel v ≠ 0 ∨ wTxType v ≠ 0 ∨ wHbd v ≠ 0 then illegal else exec .nop s1
       else if wOpc v = 1 then
         match shapeOfCode (wSel v) with
         | none => illegal
         | some sh =>
           if 15 < wTxType v then .next (raise .txtypeRange s1)
           else if s.eng.src.toNat % (1 + wHbd v) ≠ 0 ∨ s.eng.dst.toNat % 4 ≠ 0 then align
           else exec (fhtInstr sh (BitVec.ofNat 8 (wTxType v)) (decide (wHbd v = 1))) s1
       else if wOpc v = 2 then
         if wSel v ≠ 0 ∨ wTxType v ≠ 0 then illegal
         else if s.eng.src.toNat % (1 + wHbd v) ≠ 0 ∨ s.eng.dst.toNat % 4 ≠ 0 then align
         else exec (.fwht4x4 (decide (wHbd v = 1))) s1
       else if wOpc v = 3 then
         match kernelOfId (wSel v) with
         | none => illegal
         | some k =>
           if wTxType v ≠ 0 ∨ wHbd v ≠ 0 then illegal
           else if s.eng.src.toNat % 4 ≠ 0 ∨ s.eng.dst.toNat % 4 ≠ 0 then align
           else exec (k1dInstr k) s1
       else illegal) ∧
    ∀ s' : State, writeCmd v s = .next s' → s'.eng.run = .faulted ∨ (s'.eng.run = .idle ∧ statusDone s'.eng.status = true)

/-- R45. A command whose SRC is no multiple of its read size or whose DST is no multiple of 4 faults OPERAND_ALIGN and does
nothing else. -/
def Obligations.AlignmentFault : Prop :=
  ∀ (i : MemCommand) (s : State), (s.eng.src.toNat % i.readSize ≠ 0 ∨ s.eng.dst.toNat % 4 ≠ 0) →
    exec i.instr s = .next (raise .operandAlign s) ∧ (raise .operandAlign s).mem = s.mem

/-- R145. An `FHT*` command of any shape whose type is above 15 faults TXTYPE_RANGE, whatever its operands. -/
def Obligations.TypeFault : Prop :=
  ∀ (sh : Shape) (tt : BitVec 8) (hbd : Bool) (s : State), 15 < tt.toNat →
    exec (fhtInstr sh tt hbd) s = .next (raise .txtypeRange s)

/-- R203. With the checks on, a command whose computation went out of budget faults RANGE_BUDGET and writes no byte; with the checks
off the same command completes and writes the words it computed. That a budget fault does not ask whether the writes would have been
admitted is the model's reading (log entry 6, DEDUCED). -/
def Obligations.BudgetFault : Prop :=
  ∀ (i : MemCommand) (s : State), misaligned (i.transfer s.eng) s.eng = false → regionRefusal (i.transfer s.eng) s = none →
    readsAdmitted (i.transfer s.eng) s = true → (i.work s.mem s.eng).computed.viol = true →
    (debugChecks s.eng = true → ∃ s', exec i.instr s = .next s' ∧ s'.mem = s.mem ∧
      s'.eng.visible = { s.eng.visible with status := setFault .rangeBudget s.eng.status, finfo := s.eng.cmd, run := .faulted } ∧
      s'.lower = s.lower ∧ s'.upper = s.upper) ∧
    (debugChecks s.eng = false → writesAdmitted (i.transfer s.eng) s = true → ∃ s', exec i.instr s = .next s' ∧
      Completed (i.transfer s.eng) (i.work s.mem s.eng).words s s')

/-! ### Premises on the operands (20_memory.md R47, R48, R55) -/

/-- R47. An aligned command whose input and output region share a byte, or one of whose regions wraps, is refused, and it is
refused for these reasons only then. -/
def Obligations.RegionsRefused : Prop :=
  ∀ (i : MemCommand) (s : State), s.eng.src.toNat % i.readSize = 0 → s.eng.dst.toNat % 4 = 0 →
    ((i.Wraps s.eng ∨ ∃ a, i.InputByte s.eng a ∧ i.OutputByte s.eng a) ↔
      (exec i.instr s = .refused .regionWraps ∨ exec i.instr s = .refused .regionsOverlap))

/-- R55. An aligned command whose regions are otherwise good is refused exactly when it is concurrent with an earlier one of which it
touches a written byte, or which touches a byte it would write. (Which commands are concurrent is kept in the model's own
`window`, log entry 9.) -/
def Obligations.ConcurrentRefused : Prop :=
  ∀ (i : MemCommand) (s : State), s.eng.src.toNat % i.readSize = 0 → s.eng.dst.toNat % 4 = 0 → ¬ i.Wraps s.eng →
    (¬ ∃ a, i.InputByte s.eng a ∧ i.OutputByte s.eng a) →
    ((∃ g ∈ s.window, s.host ≠ g.host ∧ s.host ∉ g.after ∧ ∃ a,
        (i.OutputByte s.eng a ∧ (g.writes.has a ∨ ∃ x ∈ g.reads, x.has a)) ∨
        (g.writes.has a ∧ ∃ x ∈ (i.transfer s.eng).reads, x.has a)) ↔
      exec i.instr s = .refused .concurrentOverlap)

/-- R48. An aligned command with good regions has no step when one of its reads is not admitted, nor, when nothing stops it before, when
one of its writes is not. That reads are looked at before the computation and writes after it is the model's reading (log entry 6, DEDUCED). -/
def Obligations.NotAdmittedStuck : Prop :=
  ∀ (i : MemCommand) (s : State), misaligned (i.transfer s.eng) s.eng = false → regionRefusal (i.transfer s.eng) s = none →
    ((∃ a ∈ (i.transfer s.eng).addrs, admits s.holes a i.readSize = false) → exec i.instr s = .fault .notAdmitted) ∧
    (readsAdmitted (i.transfer s.eng) s = true → ((i.work s.mem s.eng).computed.viol && debugChecks s.eng) = false →
      (∃ k, k < i.nout ∧ admits s.holes (outAddr s.eng k) 4 = false) → exec i.instr s = .fault .notAdmitted)

/-! ### The commands: completion, result and frame -/

/-- R194. NOP sets DONE and changes nothing else, whatever the operands; any other word with OPC = 0 is an ILLEGAL_ENTRY; after
reset, writing 0 to CMD leaves STATUS 1 and memory as it was. -/
def Obligations.NopCommand : Prop :=
  (∀ s : State, exec .nop s = .next { s with eng := { s.eng with status := s.eng.status ||| 1 } }) ∧
  (∀ (s : State) (v : Word), s.eng.run = .idle → wOpc v = 0 → v ≠ 0 →
    writeCmd v s = .next (raise .illegalEntry (startCommand v s))) ∧
  ∃ s', step (State.reset.withFetchWord 32 0) = .next s' ∧ s'.eng.status = 1 ∧ s'.mem = State.reset.mem

/-- R147, R159, R191. Every `FHT*` command of a legal type, on ready operands and in budget (or with the checks off), completes: word
`r * min(W,32) + c` of the output is element `(r, c)` of the grid the two passes leave, for the frequencies kept, and nothing
else changes. -/
def Obligations.FhtCompletes : Prop :=
  ∀ (sh : Shape) (t : TxType) (hbd : Bool) (s : State),
    let p := (shapePasses sh t (shapeBlock sh t hbd s.mem s.eng)).run false
    Ready (MemCommand.transfer s.eng (.block sh t hbd)) s → (p.2 = true → debugChecks s.eng = false) →
    ∃ s' words, exec (fhtInstr sh (txCode t) hbd) s = .next s' ∧
      Completed (MemCommand.transfer s.eng (.block sh t hbd)) words s s' ∧
      ∀ r c, r < min (shapeHeight sh) 32 → c < min (shapeWidth sh) 32 →
        words.getD (r * min (shapeWidth sh) 32 + c) 0 = at2 p.1.res r c

/-- R192. `FWHT4X4` on ready operands always completes, DEBUG_CHECKS on or off; a block of equal samples `v` gives `16 v` in word 0 and zero in
the other words. -/
def Obligations.FwhtCompletes : Prop :=
  ∀ (hbd : Bool) (s : State), Ready (MemCommand.transfer s.eng (.wht hbd)) s →
    ∃ s' words, exec (.fwht4x4 hbd) s = .next s' ∧ Completed (MemCommand.transfer s.eng (.wht hbd)) words s s' ∧
      (∀ r c, r < 4 → c < 4 → words.getD (4 * r + c) 0 = at2 ((whtPasses (whtBlock hbd s.mem s.eng)).run false).1.res r c) ∧
      ∀ v : Sample, (∀ r c, r < 4 → c < 4 → sample s.mem s.eng hbd r c = v) →
        words = BitVec.ofInt 32 (16 * v.toInt) :: List.replicate 15 0

/-- R192. `FWHT4X4` is lossless: the inverse transform of the words it writes is the block it read. -/
def Obligations.FwhtLossless : Prop :=
  ∀ (hbd : Bool) (s s' : State), Ready (MemCommand.transfer s.eng (.wht hbd)) s → exec (.fwht4x4 hbd) s = .next s' →
    ∀ r c, r < 4 → c < 4 →
      iwht4x4 (fun k => (BitVec.ofNat 32 (memRead s'.mem (outAddr s.eng k) 4)).toInt) r c = (sample s.mem s.eng hbd r c).toInt

/-- R193. Every `K1D.*` command on ready operands, in budget or with the checks off, completes: output word `i` is lane `i` of what its
kernel makes of the words at SRC, and nothing else changes. -/
def Obligations.K1dCompletes : Prop :=
  ∀ (k : Kernel) (s : State),
    let p := (runKernel k (inputVector (kernelLen k) s.mem s.eng)).run false
    Ready (MemCommand.transfer s.eng (.vector k)) s → (p.2 = true → debugChecks s.eng = false) →
    ∃ s', exec (k1dInstr k) s = .next s' ∧ Completed (MemCommand.transfer s.eng (.vector k)) p.1.vout s s'

/-- The frame of every command: what a next state leaves of the state before. No byte outside the output words of the command
changes, and none at all when the engine has faulted, nor for NOP and for an `FHT*` of a type above 15; every register but STATUS and FINFO, every other engine and the reserved bits
of STATUS are as they were (R46, R159, R204, R212). -/
def Obligations.CommandFrame : Prop :=
  (∀ (i : MemCommand) (s s' : State), s.eng.run = .idle → exec i.instr s = .next s' →
    (∀ a, ¬ i.OutputByte s.eng a → readByte s'.mem a = readByte s.mem a) ∧ (s'.eng.run = .faulted → s'.mem = s.mem)) ∧
  ∀ (i : Instr) (s s' : State), exec i s = .next s' →
    ((∀ c : MemCommand, i ≠ c.instr) → s'.mem = s.mem) ∧
    s'.eng.visible = { s.eng.visible with status := s'.eng.status, finfo := s'.eng.finfo, run := s'.eng.run } ∧
    s'.eng.status &&& 0xFFFFFF0C#32 = s.eng.status &&& 0xFFFFFF0C#32 ∧
    (s'.eng.run = .idle → s'.eng.finfo = s.eng.finfo) ∧
    s'.lower = s.lower ∧ s'.upper = s.upper ∧ s'.holes = s.holes ∧ s'.pending = s.pending ∧ s'.host = s.host ∧ s'.rdata = s.rdata

/-- R14, R26 to R28. A `K1D.*` command of length L uses lanes below L only and no block buffer. -/
def Obligations.VectorScratchFrame : Prop :=
  ∀ (k : Kernel) (s s' : State), exec (k1dInstr k) s = .next s' →
    s'.eng.xbuf = s.eng.xbuf ∧ s'.eng.mid = s.eng.mid ∧ s'.eng.res = s.eng.res ∧
    ∀ j (hj : j < 64), kernelLen k ≤ j → s'.eng.vin[j] = s.eng.vin[j] ∧ s'.eng.vout[j] = s.eng.vout[j] ∧
      ∀ n (hn : n < 12), s'.eng.b[n][j] = s.eng.b[n][j]

/-- R14, R26 to R28. An `FHT*` command writes XBUF, MID and RES at positions of its shape only, and `FWHT4X4` MID and RES in the top left
4 by 4 and no XBUF; and neither writes a lane at an index that is beyond both sides. -/
def Obligations.BlockScratchFrame : Prop :=
  (∀ (sh : Shape) (tt : BitVec 8) (hbd : Bool) (s s' : State), exec (fhtInstr sh tt hbd) s = .next s' →
    ∀ r c (hr : r < 64) (hc : c < 64), (shapeHeight sh ≤ r ∨ shapeWidth sh ≤ c) →
      s'.eng.xbuf[r][c] = s.eng.xbuf[r][c] ∧ s'.eng.mid[r][c] = s.eng.mid[r][c] ∧ s'.eng.res[r][c] = s.eng.res[r][c]) ∧
  (∀ (sh : Shape) (tt : BitVec 8) (hbd : Bool) (s s' : State), exec (fhtInstr sh tt hbd) s = .next s' →
    ∀ j (hj : j < 64), max (shapeWidth sh) (shapeHeight sh) ≤ j → s'.eng.vin[j] = s.eng.vin[j] ∧ s'.eng.vout[j] = s.eng.vout[j] ∧
      ∀ n (hn : n < 12), s'.eng.b[n][j] = s.eng.b[n][j]) ∧
  ∀ (hbd : Bool) (s s' : State), exec (.fwht4x4 hbd) s = .next s' →
    s'.eng.xbuf = s.eng.xbuf ∧
    (∀ r c (hr : r < 64) (hc : c < 64), (4 ≤ r ∨ 4 ≤ c) →
      s'.eng.mid[r][c] = s.eng.mid[r][c] ∧ s'.eng.res[r][c] = s.eng.res[r][c]) ∧
    ∀ j (hj : j < 64), 4 ≤ j → s'.eng.vin[j] = s.eng.vin[j] ∧ s'.eng.vout[j] = s.eng.vout[j] ∧
      ∀ n (hn : n < 12), s'.eng.b[n][j] = s.eng.b[n][j]

/-- R36. What a command word does is a function of the word, SRC, STRIDE, DST, DEBUG_CHECKS and the input bytes: two idle engines that agree in
these, whatever their scratch, the rest of memory, the other engines and the past, end with the same STATUS, FINFO and run state and, if
they complete, the same output words. -/
def Obligations.Stateless : Prop :=
  ∀ (v : Word) (s1 s2 t1 : State), EngineOk s1.eng → EngineOk s2.eng → s1.eng.run = .idle → s2.eng.run = .idle →
    s1.eng.cap = s2.eng.cap → s1.eng.src = s2.eng.src → s1.eng.stride = s2.eng.stride → s1.eng.dst = s2.eng.dst →
    (∀ i : MemCommand, decode v = .ok i.instr →
      (∀ a, i.InputByte s1.eng a → readByte s1.mem a = readByte s2.mem a) ∧ regionRefusal (i.transfer s2.eng) s2 = none ∧
      readsAdmitted (i.transfer s2.eng) s2 = true ∧ writesAdmitted (i.transfer s2.eng) s2 = true) →
    writeCmd v s1 = .next t1 →
    ∃ t2, writeCmd v s2 = .next t2 ∧ t1.eng.status = t2.eng.status ∧ t1.eng.finfo = t2.eng.finfo ∧ t1.eng.run = t2.eng.run ∧
      ∀ i : MemCommand, decode v = .ok i.instr → t1.eng.run = .idle →
        ∀ k, k < i.nout → memRead t1.mem (outAddr s1.eng k) 4 = memRead t2.mem (outAddr s2.eng k) 4

/-- R55. Two commands that different hosts give to different engines, not ordered by a synchronisation, can be taken in either order: if one
order runs, so does the other, and the engines and the memory are the same after. (The window is the model's, log entry 9.) -/
def Obligations.Interleaving : Prop :=
  ∀ (s s1 s2 : State) (a b : HostOp) (ea eb : Nat) (va vb : Word),
    a.act = .regWrite ea 0x10 4 va → b.act = .regWrite eb 0x10 4 vb → ea ≠ eb → a.host ≠ b.host → s.mem.wf = true →
    hostStep a s = .next s1 → hostStep b s1 = .next s2 →
    ∃ t1 t2, hostStep b s = .next t1 ∧ hostStep a t1 = .next t2 ∧ t2.engines = s2.engines ∧ t2.mem = s2.mem ∧
      t2.rdata = s2.rdata ∧ t2.holes = s2.holes ∧ t2.pending = s2.pending ∧ ∀ f, f ∈ t2.window ↔ f ∈ s2.window

/-! ### Memory (20_memory.md R40 to R44, 30_encoding.md R76) -/

/-- R41. Multi-byte data is little-endian: the sum a read is, the bytes a write sets, and that two single bytes written low byte
first are the same memory as one 16-bit store. -/
def Obligations.LittleEndian : Prop :=
  (∀ (m : Memory) (a n : Nat), memRead m a n = ∑ i ∈ Finset.range n, (readByte m (a + i)).toNat * 2 ^ (8 * i)) ∧
  (∀ (m : Memory) (a n v k : Nat), readByte (memWrite m a n v) k =
    if a ≤ k ∧ k < a + n then BitVec.ofNat 8 (v / 2 ^ (8 * (k - a))) else readByte m k) ∧
  ∀ (m : Memory) (a v : Nat), memWrite (memWrite m a 1 v) (a + 1) 1 (v / 256) = memWrite m a 2 v

/-- R42, R44. Where an input sample and an input word lie, and that a sample is the signed number of its bytes. -/
def Obligations.OperandReads : Prop :=
  (∀ (m : Memory) (e : Engine) (hbd : Bool) (r c : Nat),
    sampleAddr e hbd r c = (e.src.toNat + (r * e.stride.toNat + c) * (if hbd then 2 else 1)) % 2 ^ 32 ∧
    (sample m e hbd r c).toInt =
      Int.bmod (memRead m (sampleAddr e hbd r c) (if hbd then 2 else 1)) (if hbd then 2 ^ 16 else 2 ^ 8)) ∧
  ∀ (m : Memory) (e : Engine) (i : Nat),
    (inputWord m e i).toInt = Int.bmod (memRead m ((e.src.toNat + 4 * i) % 2 ^ 32) 4) (2 ^ 32)

/-- R76, R40. The hosts' own accesses, where they are inside the memory and admitted: a store writes the low bytes of its value and no
other byte, a load answers the four bytes little-endian; neither changes an engine. That admission applies to them and that a store past the
top stops is the model's reading (log entry 10, DEDUCED). -/
def Obligations.HostAccesses : Prop :=
  (∀ (s : State) (w : StoreWidth) (addr v : Word), addr.toNat + storeBytes w ≤ 2 ^ 32 → admits s.holes addr.toNat (storeBytes w) = true →
    ∃ s', hostAction (.store w addr v) s = .next s' ∧ s'.engines = s.engines ∧
      memRead s'.mem addr.toNat (storeBytes w) = v.toNat % 2 ^ (8 * storeBytes w) ∧
      ∀ a, ¬ (addr.toNat ≤ a ∧ a < addr.toNat + storeBytes w) → readByte s'.mem a = readByte s.mem a) ∧
  (∀ (s : State) (addr : Word), addr.toNat + 4 ≤ 2 ^ 32 → admits s.holes addr.toNat 4 = true →
    ∃ s', hostAction (.load addr) s = .next s' ∧ s'.rdata.toNat = memRead s.mem addr.toNat 4 ∧ s'.mem = s.mem ∧
      s'.engines = s.engines) ∧
  ∀ (s : State) (w : StoreWidth) (addr v : Word), 2 ^ 32 < addr.toNat + storeBytes w →
    hostAction (.store w addr v) s = .fault .noSuchAddress

/-! ### Primitives (40_primitives.md) -/

/-- R90. The two narrowings answer the wrapped value, and are out of budget exactly when the number leaves the range. -/
def Obligations.Narrowing : Prop :=
  (∀ (v : Int) (b : Bool), (narrowS v).run b = (BitVec.ofInt 32 v, b || decide (v < -(2 ^ 31) ∨ 2 ^ 31 ≤ v))) ∧
  (∀ (v : Int) (b : Bool), (narrowW v).run b = (Int.bmod v (2 ^ 64), b || decide (v < -(2 ^ 63) ∨ 2 ^ 63 ≤ v))) ∧
  ∀ v : Int, (BitVec.ofInt 32 v).toInt = Int.bmod v (2 ^ 32) ∧ (-(2 ^ 31) ≤ v → v < 2 ^ 31 → (BitVec.ofInt 32 v).toInt = v)

/-- R91. `ROUND_SHIFT` is the quotient to the nearest, an exact half toward plus infinity, and is out of budget only at the top of the
working range. -/
def Obligations.RoundShift : Prop :=
  (∀ (v : Int) (b : Bool), (roundShift v 0).run b = (v, b)) ∧
  ∀ (v : Int) (n : Nat) (b : Bool), 1 ≤ n → n ≤ 14 → -(2 ^ 63) ≤ v → v < 2 ^ 63 →
    if v + 2 ^ (n - 1) < 2 ^ 63 then
      ∃ q : Int, (roundShift v n).run b = (q, b) ∧ 2 ^ n * q ≤ v + 2 ^ (n - 1) ∧ v + 2 ^ (n - 1) < 2 ^ n * (q + 1)
    else ((roundShift v n).run b).2 = true

/-- R92. `ROUND_SHIFT_SIGNED` is the quotient to the nearest, an exact half away from zero, odd in its operand, and never longer than
it. -/
def Obligations.RoundShiftSigned : Prop :=
  (∀ v : Int, roundShiftSigned v 0 = v) ∧
  (∀ (v : Int) (n : Nat), 1 ≤ n → 0 ≤ v →
    2 ^ n * roundShiftSigned v n ≤ v + 2 ^ (n - 1) ∧ v + 2 ^ (n - 1) < 2 ^ n * (roundShiftSigned v n + 1)) ∧
  ∀ (v : Int) (n : Nat), roundShiftSigned (-v) n = -roundShiftSigned v n ∧ |roundShiftSigned v n| ≤ |v|

/-- R96, R97, R103. In budget, a rotation and a constant multiply are within half a unit of the exact product sum; and only their last
narrowing, to a lane, can be out of budget. -/
def Obligations.RotationError : Prop :=
  (∀ (w0 w1 : Weight) (a b : Lane) (x : Bool),
    let p := weightValue w0 * a.toInt + weightValue w1 * b.toInt
    let q := (rot (weightValue w0) a (weightValue w1) b).run x
    if -(2 ^ 45) - 2 ^ 13 ≤ p ∧ p + 2 ^ 13 < 2 ^ 45 then q.2 = x ∧ -(2 ^ 13) < 2 ^ 14 * q.1.toInt - p ∧ 2 ^ 14 * q.1.toInt - p ≤ 2 ^ 13
    else q.2 = true) ∧
  ∀ (a : Lane) (x : Bool),
    let p := a.toInt * 23170
    let q := (mulc a sqrt2).run x
    if -(2 ^ 45) - 2 ^ 13 ≤ p ∧ p + 2 ^ 13 < 2 ^ 45 then q.2 = x ∧ -(2 ^ 13) < 2 ^ 14 * q.1.toInt - p ∧ 2 ^ 14 * q.1.toInt - p ≤ 2 ^ 13
    else q.2 = true

/-- R98, R99. `ADD`, `SUB`, `NEG` and `SHL` are the wrapped exact result and are out of budget exactly when it leaves the lane range; the
negation of the most negative lane is itself, out of budget. -/
def Obligations.AddersAndShift : Prop :=
  (∀ (a b : Lane) (x : Bool),
    let bad := fun v : Int => decide (v < -(2 ^ 31) ∨ 2 ^ 31 ≤ v)
    (add a b).run x = (a + b, x || bad (a.toInt + b.toInt)) ∧
    (sub a b).run x = (a - b, x || bad (a.toInt - b.toInt)) ∧
    (neg a).run x = (-a, x || bad (-a.toInt)) ∧
    ∀ k, (shl a k).run x = (a <<< k, x || bad (a.toInt * 2 ^ k))) ∧
  ∀ x : Bool, (neg 0x80000000).run x = (0x80000000, true)

/-- R93, R94. The constants the spec gives a closed form that needs no other than the square root of two: `SQRT2`, `COSPI[0]`, `COSPI[32]`,
`COSPI[64]`; and along the table the values fall, and the squares of `COSPI[k]` and `COSPI[64-k]` sum to `2^28` to within `2^15`. -/
def Obligations.Constants : Prop :=
  |(sqrt2 : ℝ) - 2 ^ 14 * Real.sqrt 2| ≤ 1 / 2 ∧
  |(cospi 0 : ℝ) - 2 ^ 14 * Real.cos (0 * Real.pi / 128)| ≤ 1 / 2 ∧
  |(cospi 32 : ℝ) - 2 ^ 14 * Real.cos (32 * Real.pi / 128)| ≤ 1 / 2 ∧
  |(cospi 64 : ℝ) - 2 ^ 14 * Real.cos (64 * Real.pi / 128)| ≤ 1 / 2 ∧
  ∀ k : Nat, k < 64 → cospi (k + 1) < cospi k ∧ |cospi k ^ 2 + cospi (64 - k) ^ 2 - 2 ^ 28| ≤ 2 ^ 15

/-! ### Kernels (41_dct_kernels.md to 44_identity_wht_kernels.md) -/

/-- R100, R101. A kernel is a total function of its L lanes to L lanes that depends on nothing else, the budget bit included, which it at
most sets; and it maps zeros to zeros, in budget. -/
def Obligations.KernelContract : Prop :=
  (∀ (k : Kernel) (v : List Lane), v.length = kernelLen k →
    ∃ (r : KernelRun) (w : Bool), (∀ b, (runKernel k v).run b = (r, b || w)) ∧ r.vin = v ∧ r.vout.length = kernelLen k) ∧
  ∀ (k : Kernel) (b : Bool),
    ((runKernel k (List.replicate (kernelLen k) 0)).run b).1.vout = List.replicate (kernelLen k) 0 ∧
    ((runKernel k (List.replicate (kernelLen k) 0)).run b).2 = b

/-- R106 to R108, R115, R116, the corner case of each. A DCT kernel on a constant vector whose sum fits gives the rounded product of the sum
and `COSPI[32]` in lane 0, zero in every other lane, and stays in budget. -/
def Obligations.DctConstant : Prop :=
  ∀ (k : Kernel), k = .fdct4 ∨ k = .fdct8 ∨ k = .fdct16 ∨ k = .fdct32 ∨ k = .fdct64 →
    ∀ (v : Lane) (b : Bool), |kernelLen k * v.toInt| < 2 ^ 30 →
      ((runKernel k (List.replicate (kernelLen k) v)).run b).1.vout =
          BitVec.ofInt 32 ((11585 * (kernelLen k * v.toInt) + 8192) / 16384) :: List.replicate (kernelLen k - 1) 0 ∧
        ((runKernel k (List.replicate (kernelLen k) v)).run b).2 = b

/-- R120. `FADST4` lane by lane in exact integers, without the all-zero fast path: no narrowing but the last of each lane changes a
value, and the fast path cannot be observed. -/
def Obligations.Fadst4Formula : Prop :=
  ∀ (a b c d : Lane) (x : Bool),
    let y0 := 5283 * a.toInt + 9929 * b.toInt + 15212 * d.toInt
    let y1 := 13377 * (a.toInt + b.toInt - d.toInt)
    let y2 := 15212 * a.toInt - 5283 * b.toInt + 9929 * d.toInt
    let y3 := 13377 * c.toInt
    let rs := fun v : Int => BitVec.ofInt 32 ((v + 8192) / 16384)
    ((runKernel .fadst4 [a, b, c, d]).run x).1.vout = [rs (y0 + y3), rs y1, rs (y2 - y3), rs (y2 - y0 + y3)]

/-- R123, R124. A half-right kernel: the DCT of the second half times the square root of two, then the first half scaled. -/
def Obligations.HalfRight : Prop :=
  (∀ (v : List Lane) (x : Bool), v.length = 32 →
    ((runKernel .fhalfright32 v).run x).1.vout =
      ((runKernel .fdct16 ((v.drop 16).map fun a => BitVec.ofInt 32 ((a.toInt * 23170 + 8192) / 16384))).run false).1.vout ++
        (v.take 16).map fun a => BitVec.ofInt 32 (4 * a.toInt)) ∧
  ∀ (v : List Lane) (x : Bool), v.length = 64 →
    ((runKernel .fhalfright64 v).run x).1.vout =
      ((runKernel .fdct32 ((v.drop 32).map fun a => BitVec.ofInt 32 ((a.toInt * 23170 + 8192) / 16384))).run false).1.vout ++
        (v.take 32).map fun a => BitVec.ofInt 32 (((BitVec.ofInt 32 (4 * a.toInt)).toInt * 23170 + 8192) / 16384)

/-- R130 to R134. The identity kernels scale every lane by the constant of their length. -/
def Obligations.IdentityKernels : Prop :=
  ∀ (v : List Lane) (x : Bool),
    let root := fun a : Lane => BitVec.ofInt 32 ((a.toInt * 23170 + 8192) / 16384)
    let times := fun (n : Int) (a : Lane) => BitVec.ofInt 32 (n * a.toInt)
    ((runKernel .fidtx4 v).run x).1.vout = v.map root ∧
    ((runKernel .fidtx8 v).run x).1.vout = v.map (times 2) ∧
    ((runKernel .fidtx16 v).run x).1.vout = v.map (fun a => root (times 2 a)) ∧
    ((runKernel .fidtx32 v).run x).1.vout = v.map (times 4) ∧
    ((runKernel .fidtx64 v).run x).1.vout = v.map (fun a => root (times 4 a))

/-- R135. `WHT4` is invertible while it stays in budget, which it does for lanes below `2^28` in magnitude, and gives `(2v, 0, 0, 0)` on a
constant vector of those. -/
def Obligations.Wht4Invertible : Prop :=
  ∀ (a b c d : Lane) (x : Bool),
    let y := ((runKernel .wht4 [a, b, c, d]).run x).1.vout
    (((runKernel .wht4 [a, b, c, d]).run false).2 = false →
      iwht4 (lane y 0).toInt (lane y 1).toInt (lane y 2).toInt (lane y 3).toInt = (a.toInt, b.toInt, c.toInt, d.toInt)) ∧
    (|a.toInt| < 2 ^ 28 → |b.toInt| < 2 ^ 28 → |c.toInt| < 2 ^ 28 → |d.toInt| < 2 ^ 28 →
      ((runKernel .wht4 [a, b, c, d]).run x).2 = x ∧
      (b = a → c = a → d = a → y = [BitVec.ofInt 32 (2 * a.toInt), 0, 0, 0]))

/-! ### The 2-D transform (45_flip.md, 46_transform_2d.md, 47_repack_and_misc_commands.md) -/

/-- R156, R160 to R178. The record built from the rules is the word listed, in all 304 cells, and the types have the codes of R69. -/
def Obligations.DispatchWords : Prop :=
  (∀ (sh : Shape) (t : TxType), (dispatchRom sh)[(txCode t).toNat]? = some (recordWord (dispatch sh t))) ∧
  (∀ sh : Shape, (dispatchRom sh).length = 16) ∧
  ∀ tt : BitVec 8, (tt.toNat ≤ 15 → ∃ t, txTypeOf tt = some t ∧ txCode t = tt) ∧ (15 < tt.toNat → txTypeOf tt = none)

/-- R149, R154, R155, R191. Of every cell: the kernels have the lengths of the sides; the pass order is columns first exactly for the shapes
wider than tall; the input scaling has the factor of the square root of two exactly for sides in the ratio 2 to 1; and the count of
output words is that of the table. -/
def Obligations.ShapeTables : Prop :=
  ∀ (sh : Shape) (t : TxType),
    kernelLen (dispatch sh t).rowk = shapeWidth sh ∧ kernelLen (dispatch sh t).colk = shapeHeight sh ∧
    kernelFor (horizontalKind t) (shapeWidth sh) = some (dispatch sh t).rowk ∧
    kernelFor (verticalKind t) (shapeHeight sh) = some (dispatch sh t).colk ∧
    ((dispatch sh t).order = .colsFirst ↔ shapeHeight sh < shapeWidth sh) ∧
    ((dispatch sh t).inSqrt2 = true ↔ shapeWidth sh = 2 * shapeHeight sh ∨ shapeHeight sh = 2 * shapeWidth sh) ∧
    (dispatch sh t).inUp ∈ [0, 2, 4] ∧ (dispatch sh t).midShift ∈ [0, 2, 4] ∧ (dispatch sh t).outShift ∈ [0, 1, 2] ∧
    noutTable sh = min (shapeWidth sh) 32 * min (shapeHeight sh) 32 ∧ shapeNout sh = noutTable sh

/-- R140, R141. The conditioned block is the block of samples, its rows mirrored exactly when the vertical kind is the flipped ADST and its columns
exactly when the horizontal kind is; mirroring twice along an axis gives the block back, and the two mirrors commute (R144). -/
def Obligations.Conditioner : Prop :=
  (∀ t : TxType, ((flipClass t).ud = true ↔ verticalKind t = .flipadst) ∧ ((flipClass t).lr = true ↔ horizontalKind t = .flipadst)) ∧
  (∀ (f : FlipClass) (w h : Nat) (smp : Nat → Nat → Sample) (r c : Nat), r < h → c < w →
    ((condition f w h smp).getD r []).getD c 0 =
      smp (if f.ud then h - 1 - r else r) (if f.lr then w - 1 - c else c)) ∧
  ∀ (f g : FlipClass) (w h : Nat) (smp : Nat → Nat → Sample),
    let again := fun (f : FlipClass) (x : List (List Sample)) => condition f w h fun r c => (x.getD r []).getD c 0
    again f (condition f w h smp) = condition ⟨false, false⟩ w h smp ∧
    again f (condition g w h smp) = again g (condition f w h smp)

/-- R144. A flipping type on a block writes the words its unflipped partner writes on the mirrored block, at every shape. -/
def Obligations.FlipEquivalence : Prop :=
  ∀ (sh : Shape) (t : TxType) (b1 b2 : Bool) (s1 s2 t1 t2 : State),
    (∀ r c, r < shapeHeight sh → c < shapeWidth sh →
      sample s2.mem s2.eng b2 r c =
        sample s1.mem s1.eng b1 (if verticalKind t = .flipadst then shapeHeight sh - 1 - r else r)
          (if horizontalKind t = .flipadst then shapeWidth sh - 1 - c else c)) →
    Ready (MemCommand.transfer s1.eng (.block sh t b1)) s1 → Ready (MemCommand.transfer s2.eng (.block sh (partner t) b2)) s2 →
    debugChecks s1.eng = false → debugChecks s2.eng = false →
    exec (fhtInstr sh (txCode t) b1) s1 = .next t1 → exec (fhtInstr sh (txCode (partner t)) b2) s2 = .next t2 →
    ∀ k, k < noutTable sh → memRead t1.mem (outAddr s1.eng k) 4 = memRead t2.mem (outAddr s2.eng k) 4

/-- R179 (e). For a shape that is no square, the transposed block under the exchanged type at the turned shape gives the transposed full grid,
bit for bit, and the same budget bit. -/
def Obligations.Transposition : Prop :=
  ∀ (sh : Shape) (t : TxType) (smp : Nat → Nat → Sample), shapeWidth sh ≠ shapeHeight sh →
    let p := (shapePasses sh t (condition (flipClass t) (shapeWidth sh) (shapeHeight sh) smp)).run false
    let q := (shapePasses (turned sh) (swapped t)
      (condition (flipClass (swapped t)) (shapeHeight sh) (shapeWidth sh) fun r c => smp c r)).run false
    (∀ r c, r < shapeHeight sh → c < shapeWidth sh → at2 p.1.res r c = at2 q.1.res c r) ∧ p.2 = q.2

/-- R179 (b). A block of zeros gives zero words at every shape and type, in budget. -/
def Obligations.ZeroBlock : Prop :=
  ∀ (sh : Shape) (t : TxType) (hbd : Bool) (m : Memory) (e : Engine),
    (∀ r c, r < shapeHeight sh → c < shapeWidth sh → sample m e hbd r c = 0) →
    (MemCommand.work m e (.block sh t hbd)).words = List.replicate (noutTable sh) 0 ∧
    (MemCommand.work m e (.block sh t hbd)).computed.viol = false

/-- R179 (c), the document's own scenario. A block of equal samples under DCT_DCT gives one word that may differ from zero, word 0, at every
shape. -/
def Obligations.ConstantBlock : Prop :=
  ∀ (sh : Shape) (hbd : Bool) (m : Memory) (e : Engine) (v : Sample),
    (∀ r c, r < shapeHeight sh → c < shapeWidth sh → sample m e hbd r c = v) →
    ∃ d : Lane, (MemCommand.work m e (.block sh .dctDct hbd)).words = d :: List.replicate (noutTable sh - 1) 0

/-- R179 (f). No narrowing of an `FHT*` command is out of budget, at any shape and type, for any block of 16-bit samples; so no `FHT*` command
on ready operands faults RANGE_BUDGET. -/
def Obligations.BudgetHolds : Prop :=
  (∀ (sh : Shape) (t : TxType) (x : List (List Sample)), x.length = shapeHeight sh → (∀ row ∈ x, row.length = shapeWidth sh) →
    ((shapePasses sh t x).run false).2 = false) ∧
  ∀ (sh : Shape) (t : TxType) (hbd : Bool) (s : State), Ready (MemCommand.transfer s.eng (.block sh t hbd)) s →
    ∃ s', exec (fhtInstr sh (txCode t) hbd) s = .next s' ∧ s'.eng.run = s.eng.run ∧ s'.eng.status = setDone s.eng.status

/-- R190, R191. Zeroing clears the elements of frequency 32 and above on either axis and no other; packing lists the kept elements row by
row. -/
def Obligations.ZeroAndPack : Prop :=
  ∀ (w h : Nat) (g : List (List Lane)), g.length = h → (∀ row ∈ g, row.length = w) →
    (∀ r c, r < h → c < w → at2 (zeroHigh g) r c = if 32 ≤ r ∨ 32 ≤ c then 0 else at2 g r c) ∧
    (packWords w h g).length = min w 32 * min h 32 ∧
    ∀ r c, r < min h 32 → c < min w 32 → (packWords w h g).getD (r * min w 32 + c) 0 = at2 g r c

/-- R150, R153. Input scaling of a sample, by the record of any cell, and a scaling stage are exact up to their one rounding and never out of
budget. -/
def Obligations.Scaling : Prop :=
  (∀ (sh : Shape) (t : TxType) (x : Sample) (b : Bool),
    let cell := dispatch sh t
    ∃ y : Lane, (inScale cell (x.signExtend 32)).run b = (y, b) ∧
      y.toInt = if cell.inSqrt2 then (2 ^ cell.inUp * x.toInt * 23170 + 8192) / 16384 else 2 ^ cell.inUp * x.toInt) ∧
  ∀ (n : Nat) (v : Lane) (b : Bool), ∃ y : Lane, (scale n v).run b = (y, b) ∧ y.toInt = roundShiftSigned v.toInt n ∧ |y.toInt| ≤ |v.toInt|

/-! ### The order between hosts (20_memory.md R55, R56) -/

/-- What the hosts' synchronisation orders, in the form the model gives it (log entry 9, DESIGN CHOICE: R55 leaves the form to the hosts):
it always runs, and touches no engine and no memory; a signal of host `a` that host `b` then waits for orders before `b` every command
that was ordered before `a`, and no command before any other host; a synchronisation of all hosts leaves none concurrent. -/
def Obligations.HostSynchronisation : Prop :=
  (∀ (s : State) (h token : Nat) (act : HostAction), act = .sync ∨ act = .signal token ∨ act = .wait token →
    ∃ s', hostStep ⟨h, act⟩ s = .next s' ∧ s' = { s with host := h, window := s'.window } ∧ (act = .sync → s'.window = [])) ∧
  ∀ (s s1 s2 : State) (a b token : Nat), hostStep ⟨a, .signal token⟩ s = .next s1 → hostStep ⟨b, .wait token⟩ s1 = .next s2 →
    (∀ g ∈ s.window, g.orderedBefore a = true → ∃ g' ∈ s2.window, g'.host = g.host ∧ g'.reads = g.reads ∧ g'.writes = g.writes ∧
      g'.orderedBefore b = true ∧ ∀ h, g.orderedBefore h = true → g'.orderedBefore h = true) ∧
    s2.window.length = s.window.length ∧
    ∀ (k : Nat) (g g' : Footprint), s.window[k]? = some g → s2.window[k]? = some g' →
      ∀ h, g'.orderedBefore h = true → g.orderedBefore h = true ∨ (h = b ∧ (g.orderedBefore a = true ∨ token ∈ g.tokens))

end Statements
end

