-- ==== Sys2Proof/Laws/Arith.lean ====
section
/-! SUPPORT. Laws/Arith.lean: what each primitive of Machine/Primitives.lean answers and what it does to the budget bit, and the two
ways a calculation can treat that bit. -/

namespace Sys2Proof.Machine

/-- A calculation that never reads the budget bit and at most sets it: it answers `v`, and charges when `w`. -/
def Charges {α : Type} (c : Calc α) (v : α) (w : Bool) : Prop := ∀ b, c.run b = (v, w || b)

/-- A calculation that stays in budget and answers `v`. -/
def Exact {α : Type} (c : Calc α) (v : α) : Prop := Charges c v false

theorem Charges.run {α : Type} {c : Calc α} {v : α} {w : Bool} (h : Charges c v w) (b : Bool) : c.run b = (v, w || b) := h b

theorem Exact.run {α : Type} {c : Calc α} {v : α} (h : Exact c v) (b : Bool) : c.run b = (v, b) := by
  simpa using h b

theorem charges_pure {α : Type} (v : α) : Charges (pure v : Calc α) v false := fun _ => rfl

theorem charges_bind {α β : Type} {c : Calc α} {f : α → Calc β} {v : α} {u : β} {w w' : Bool}
    (h : Charges c v w) (h' : Charges (f v) u w') : Charges (c >>= f) u (w' || w) := by
  intro b
  have : (c >>= f).run b = (f (c.run b).1).run (c.run b).2 := rfl
  rw [this, h b, h' (w || b), Bool.or_assoc]

theorem exact_pure {α : Type} (v : α) : Exact (pure v : Calc α) v := charges_pure v

theorem exact_bind {α β : Type} {c : Calc α} {f : α → Calc β} {v : α} {u : β} (h : Exact c v) (h' : Exact (f v) u) :
    Exact (c >>= f) u := charges_bind h h'

theorem charges_charge (bad : Bool) : Charges (charge bad) () bad := fun _ => rfl

/-- A list of calculations, one an element, charges when one of them does. -/
theorem charges_mapM {α β : Type} {f : α → Calc β} {g : α → β} {w : α → Bool} (xs : List α)
    (h : ∀ x ∈ xs, Charges (f x) (g x) (w x)) : Charges (xs.mapM f) (xs.map g) (xs.any w) := by
  induction xs with
  | nil => exact charges_pure _
  | cons x xs ih =>
    rw [List.mapM_cons, List.map_cons, List.any_cons, Bool.or_comm]
    refine charges_bind (h x (by simp)) ?_
    rw [← Bool.false_or (xs.any w)]
    exact charges_bind (f := fun ys => pure (g x :: ys)) (ih (fun y hy => h y (by simp [hy]))) (charges_pure _)

theorem exact_mapM {α β : Type} {f : α → Calc β} {g : α → β} (xs : List α) (h : ∀ x ∈ xs, Exact (f x) (g x)) :
    Exact (xs.mapM f) (xs.map g) := by
  have := charges_mapM (w := fun _ => false) xs h
  have h0 : (xs.any fun _ => false) = false := by simp
  rw [h0] at this
  exact this

/-! ### Reading a wrapped number -/

theorem toInt_ofInt_of_range (v : Int) (lo : -(2 ^ 31) ≤ v) (hi : v < 2 ^ 31) : (BitVec.ofInt 32 v).toInt = v := by
  rw [BitVec.toInt_ofInt]
  exact Int.bmod_eq_of_le (by norm_num; omega) (by norm_num; omega)

theorem toInt_ofInt64_of_range (v : Int) (lo : -(2 ^ 63) ≤ v) (hi : v < 2 ^ 63) : (BitVec.ofInt 64 v).toInt = v := by
  rw [BitVec.toInt_ofInt]
  exact Int.bmod_eq_of_le (by norm_num; omega) (by norm_num; omega)

theorem lane_range (a : Lane) : -(2 ^ 31) ≤ a.toInt ∧ a.toInt < 2 ^ 31 := by
  have h1 := BitVec.le_toInt a
  have h2 := BitVec.toInt_lt (x := a)
  norm_num at h1 h2
  constructor <;> omega

/-! ### The primitives -/

theorem charges_narrowS (v : Int) :
    Charges (narrowS v) (BitVec.ofInt 32 v) (decide ((BitVec.ofInt 32 v).toInt ≠ v)) := fun _ => rfl

theorem charges_narrowW (v : Int) :
    Charges (narrowW v) (BitVec.ofInt 64 v).toInt (decide ((BitVec.ofInt 64 v).toInt ≠ v)) := fun _ => rfl

theorem exact_narrowS (v : Int) (lo : -(2 ^ 31) ≤ v) (hi : v < 2 ^ 31) : Exact (narrowS v) (BitVec.ofInt 32 v) := by
  have := charges_narrowS v
  rwa [toInt_ofInt_of_range v lo hi, show decide (v ≠ v) = false by simp] at this

theorem exact_narrowW (v : Int) (lo : -(2 ^ 63) ≤ v) (hi : v < 2 ^ 63) : Exact (narrowW v) v := by
  have := charges_narrowW v
  rwa [toInt_ofInt64_of_range v lo hi, show decide (v ≠ v) = false by simp] at this

theorem roundShift_succ (v : Int) (n : Nat) :
    roundShift v (n + 1) = (narrowW (v + 2 ^ n) >>= fun w => pure (w >>> (n + 1))) := rfl

theorem exact_roundShift14 (v : Int) (lo : -(2 ^ 62) ≤ v) (hi : v < 2 ^ 62) :
    Exact (roundShift v 14) ((v + 8192) / 16384) := by
  have h1 : Exact (narrowW (v + 8192)) (v + 8192) := exact_narrowW _ (by omega) (by omega)
  have h2 : Exact (narrowW (v + 8192) >>= fun w => pure (w / 16384)) ((v + 8192) / 16384) := exact_bind h1 (exact_pure _)
  rw [roundShift_succ v 13, show (2 : Int) ^ 13 = 8192 by norm_num]
  simp only [Int.shiftRight_eq_div_pow]
  exact h2

/-- A constant multiply of bounded inputs never leaves the 64-bit working width: what is left is one narrowing to a lane. -/
theorem charges_rot (w0 w1 : Int) (a b : Lane) (h0 : -16384 ≤ w0 ∧ w0 ≤ 16384) (h1 : -16384 ≤ w1 ∧ w1 ≤ 16384) :
    Charges (rot w0 a w1 b) (BitVec.ofInt 32 ((w0 * a.toInt + w1 * b.toInt + 8192) / 16384))
      (decide ((BitVec.ofInt 32 ((w0 * a.toInt + w1 * b.toInt + 8192) / 16384)).toInt ≠
        (w0 * a.toInt + w1 * b.toInt + 8192) / 16384)) := by
  have ha := lane_range a
  have hb := lane_range b
  have hp : ∀ w x : Int, -16384 ≤ w ∧ w ≤ 16384 → -(2 ^ 31) ≤ x ∧ x < 2 ^ 31 →
      -(2 ^ 45) ≤ w * x ∧ w * x ≤ 2 ^ 45 := by
    intro w x hw hx
    have h1 : |w * x| ≤ 16384 * 2 ^ 31 := by
      rw [abs_mul]
      exact mul_le_mul (abs_le.2 hw) (abs_le.2 ⟨by omega, by omega⟩) (abs_nonneg _) (by norm_num)
    have := abs_le.1 h1
    constructor <;> norm_num at this ⊢ <;> omega
  have hpa := hp w0 a.toInt h0 ha
  have hpb := hp w1 b.toInt h1 hb
  generalize hv : w0 * a.toInt + w1 * b.toInt = v at *
  have e1 : Exact (narrowW v) v := exact_narrowW v (by omega) (by omega)
  have e2 : Exact (roundShift v 14) ((v + 8192) / 16384) := exact_roundShift14 v (by omega) (by omega)
  have e3 : Charges (roundShift v 14 >>= narrowS) _ _ := charges_bind e2 (charges_narrowS _)
  have e4 : Charges (narrowW v >>= fun p => roundShift p 14 >>= narrowS) _ _ := charges_bind e1 e3
  simp only [Bool.or_false] at e4
  rw [rot, hv]
  exact e4

theorem charges_mulc (a : Lane) :
    Charges (mulc a sqrt2) (BitVec.ofInt 32 ((a.toInt * sqrt2 + 8192) / 16384))
      (decide ((BitVec.ofInt 32 ((a.toInt * sqrt2 + 8192) / 16384)).toInt ≠ (a.toInt * sqrt2 + 8192) / 16384)) := by
  have ha := lane_range a
  have e2 : Exact (roundShift (a.toInt * sqrt2) 14) ((a.toInt * sqrt2 + 8192) / 16384) :=
    exact_roundShift14 _ (by simp only [sqrt2]; omega) (by simp only [sqrt2]; omega)
  have e3 : Charges (roundShift (a.toInt * sqrt2) 14 >>= narrowS) _ _ := charges_bind e2 (charges_narrowS _)
  simp only [Bool.or_false] at e3
  exact e3

theorem charges_shl (a : Lane) (k : Nat) :
    Charges (shl a k) (BitVec.ofInt 32 (a.toInt * 2 ^ k)) (decide ((BitVec.ofInt 32 (a.toInt * 2 ^ k)).toInt ≠ a.toInt * 2 ^ k)) :=
  charges_narrowS _

theorem weight_range (w : Weight) : -16384 ≤ weightValue w ∧ weightValue w ≤ 16384 := by
  have h : ∀ k, 0 ≤ cospi k ∧ cospi k ≤ 16384 := by
    intro k
    have hl : ∀ x ∈ cospiTable, 0 ≤ x ∧ x ≤ 16384 := by decide
    unfold cospi
    by_cases hk : k < cospiTable.length
    · rw [List.getD_eq_getElem _ _ hk]
      exact hl _ (List.getElem_mem hk)
    · rw [List.getD_eq_default _ _ (by omega)]
      norm_num
  cases w with
  | pos k => have := h k; simp only [weightValue]; omega
  | neg k => have := h k; simp only [weightValue]; omega

end Sys2Proof.Machine
end

