-- ==== Sys2Proof/Laws/Memory.lean ====
section
/-! SUPPORT. Laws/Memory.lean: the laws of the byte store. Reading after writing, the canonical form, and that two memories in
canonical form that read the same are the same. -/

namespace Sys2Proof.Machine

@[simp] theorem readByte_nil (a : Nat) : readByte [] a = unlistedByte := rfl

theorem readByte_cons (x : Host.Cell) (m : Memory) (a : Nat) :
    readByte (x :: m) a = if x.1 = a then x.2 else readByte m a := by
  cases x; rfl

/-- A byte is found in the first part of a memory if that part lists it. -/
theorem readByte_append (m m' : Memory) (a : Nat) :
    readByte (m ++ m') a = if a ∈ m.map Prod.fst then readByte m a else readByte m' a := by
  induction m with
  | nil => simp
  | cons x m ih =>
    rw [List.cons_append, readByte_cons, readByte_cons, ih]
    by_cases hx : x.1 = a
    · simp [hx]
    · have : a ≠ x.1 := fun h => hx h.symm
      simp [hx, this]

theorem readByte_of_not_mem (m : Memory) (a : Nat) (h : a ∉ m.map Prod.fst) : readByte m a = unlistedByte := by
  induction m with
  | nil => rfl
  | cons x m ih =>
    simp only [List.map_cons, List.mem_cons, not_or] at h
    rw [readByte_cons, if_neg (fun e => h.1 e.symm), ih h.2]

/-- Filtering by address does not change the bytes at the addresses kept. -/
theorem readByte_filter (m : Memory) (p : Nat → Bool) (a : Nat) :
    readByte (m.filter fun x => p x.1) a = if p a then readByte m a else unlistedByte := by
  induction m with
  | nil => simp
  | cons x m ih =>
    rw [List.filter_cons, readByte_cons]
    by_cases hx : x.1 = a
    · subst hx
      by_cases hp : p x.1
      · simp [hp, readByte_cons]
      · simp [hp, ih]
    · by_cases hp : p x.1
      · simp [hp, readByte_cons, hx, ih]
      · simp [hp, hx, ih]

theorem mem_cells {a k : Nat} {bs : List Byte} (h : k ∈ (cells a bs).map Prod.fst) : a ≤ k ∧ k < a + bs.length := by
  induction bs generalizing a with
  | nil => simp [cells] at h
  | cons v bs ih =>
    simp only [cells] at h
    split at h
    · have := ih h; simp only [List.length_cons]; omega
    · simp only [List.map_cons, List.mem_cons] at h
      rcases h with h | h
      · simp only [List.length_cons]; omega
      · have := ih h; simp only [List.length_cons]; omega

theorem readByte_cells (a k : Nat) (bs : List Byte) :
    readByte (cells a bs) k = if a ≤ k then bs.getD (k - a) unlistedByte else unlistedByte := by
  induction bs generalizing a with
  | nil => simp [cells]
  | cons v bs ih =>
    simp only [cells]
    by_cases hk : k = a
    · subst hk
      split
      · rename_i hv; rw [ih]; simp [hv]
      · simp [readByte_cons]
    · have hne : ¬ a = k := fun e => hk e.symm
      have key : readByte (cells (a + 1) bs) k =
          if a ≤ k then (v :: bs).getD (k - a) unlistedByte else unlistedByte := by
        rw [ih]
        by_cases h : a + 1 ≤ k
        · have h1 : k - a = (k - (a + 1)) + 1 := by omega
          rw [if_pos h, if_pos (by omega), h1]; simp
        · rw [if_neg h, if_neg (by omega)]
      split
      · exact key
      · rw [readByte_cons]; simp only [hne, if_false]; exact key

/-- What a store of consecutive bytes does to every byte: the bytes stored, and nothing else. -/
theorem readByte_writeBytes (m : Memory) (a k : Nat) (bs : List Byte) :
    readByte (writeBytes m a bs) k =
      if a ≤ k ∧ k < a + bs.length then bs.getD (k - a) unlistedByte else readByte m k := by
  unfold writeBytes
  rw [List.append_assoc, readByte_append, readByte_append]
  have h1 : k ∈ (m.filter fun x => decide (x.1 < a)).map Prod.fst → k < a := by simp
  have h3 := readByte_filter m (fun y => decide (a + bs.length ≤ y)) k
  have h0 := readByte_filter m (fun y => decide (y < a)) k
  simp only [decide_eq_true_eq] at h0 h3
  by_cases hlo : k < a
  · have hc : k ∉ (cells a bs).map Prod.fst := fun h => by have := mem_cells h; omega
    rw [if_neg (show ¬ (a ≤ k ∧ k < a + bs.length) by omega), if_neg hc, h3, h0, if_pos hlo,
      if_neg (show ¬ (a + bs.length ≤ k) by omega)]
    split
    · rfl
    · rename_i hn
      symm
      apply readByte_of_not_mem
      intro hk
      apply hn
      simp only [List.mem_map, List.mem_filter, decide_eq_true_eq] at hk ⊢
      obtain ⟨x, hx, rfl⟩ := hk
      exact ⟨x, ⟨hx, hlo⟩, rfl⟩
  · rw [if_neg (fun h => hlo (h1 h))]
    by_cases hhi : k < a + bs.length
    · rw [if_pos (show a ≤ k ∧ k < a + bs.length by omega), h3, readByte_cells,
        if_neg (show ¬ (a + bs.length ≤ k) by omega), if_pos (show a ≤ k by omega)]
      split
      · rfl
      · rename_i hn
        have h5 := readByte_of_not_mem _ _ hn
        rw [readByte_cells, if_pos (show a ≤ k by omega)] at h5
        exact h5.symm
    · have hc : k ∉ (cells a bs).map Prod.fst := fun h => by have := mem_cells h; omega
      rw [if_neg (show ¬ (a ≤ k ∧ k < a + bs.length) by omega), if_neg hc, h3, if_pos (by omega)]

/-! ### The canonical form -/

theorem Memory.wf_iff (m : Memory) :
    m.wf = true ↔ (m.Pairwise fun x y => x.1 < y.1) ∧ ∀ x ∈ m, x.2 ≠ unlistedByte ∧ x.1 < Config.memBytes := by
  simp [Memory.wf]

@[simp] theorem Memory.wf_nil : Memory.wf [] = true := rfl

theorem cells_pairwise (a : Nat) (bs : List Byte) : (cells a bs).Pairwise fun x y => x.1 < y.1 := by
  induction bs generalizing a with
  | nil => simp [cells]
  | cons v bs ih =>
    simp only [cells]
    split
    · exact ih _
    · refine List.pairwise_cons.2 ⟨fun y hy => ?_, ih _⟩
      have := mem_cells (List.mem_map.2 ⟨y, hy, rfl⟩)
      show a < y.1
      omega

theorem cells_ne (a : Nat) (bs : List Byte) : ∀ x ∈ cells a bs, x.2 ≠ unlistedByte := by
  induction bs generalizing a with
  | nil => simp [cells]
  | cons v bs ih =>
    simp only [cells]
    split
    · exact ih _
    · rename_i hv
      intro x hx
      rcases List.mem_cons.1 hx with rfl | hx
      · exact hv
      · exact ih _ x hx

/-- A store inside the memory keeps the canonical form. -/
theorem writeBytes_wf (m : Memory) (a : Nat) (bs : List Byte) (hm : m.wf = true) (ha : a + bs.length ≤ Config.memBytes) :
    (writeBytes m a bs).wf = true := by
  rw [Memory.wf_iff] at hm ⊢
  obtain ⟨hp, hv⟩ := hm
  have hc : ∀ x ∈ cells a bs, a ≤ x.1 ∧ x.1 < a + bs.length := fun x hx => mem_cells (List.mem_map.2 ⟨x, hx, rfl⟩)
  refine ⟨?_, fun x hx => ?_⟩
  · unfold writeBytes
    refine List.pairwise_append.2 ⟨List.pairwise_append.2 ⟨hp.filter _, cells_pairwise a bs, ?_⟩, hp.filter _, ?_⟩
    · intro x hx y hy
      have h1 := (List.mem_filter.1 hx).2
      have := hc y hy
      simp only [decide_eq_true_eq] at h1
      omega
    · intro x hx y hy
      have h2 := (List.mem_filter.1 hy).2
      simp only [decide_eq_true_eq] at h2
      rcases List.mem_append.1 hx with hx | hx
      · have h1 := (List.mem_filter.1 hx).2
        simp only [decide_eq_true_eq] at h1
        omega
      · have := hc x hx
        omega
  · unfold writeBytes at hx
    rcases List.mem_append.1 hx with hx | hx
    · rcases List.mem_append.1 hx with hx | hx
      · exact hv x (List.mem_filter.1 hx).1
      · have := hc x hx
        exact ⟨cells_ne a bs x hx, by omega⟩
    · exact hv x (List.mem_filter.1 hx).1

@[simp] theorem leBytes_length (n v : Nat) : (leBytes n v).length = n := by
  induction n generalizing v with
  | zero => rfl
  | succ n ih => simp [leBytes, ih]

@[simp] theorem wordBytes_length (ws : List Lane) : (wordBytes ws).length = 4 * ws.length := by
  induction ws with
  | nil => rfl
  | cons w ws ih =>
    have : wordBytes (w :: ws) = leBytes 4 w.toNat ++ wordBytes ws := rfl
    rw [this, List.length_append, ih, leBytes_length, List.length_cons]
    omega

theorem memWrite_wf (m : Memory) (a n v : Nat) (hm : m.wf = true) (ha : a + n ≤ Config.memBytes) :
    (memWrite m a n v).wf = true :=
  writeBytes_wf m a _ hm (by rw [leBytes_length]; exact ha)

theorem writeWords_wf (m : Memory) (a : Nat) (ws : List Lane) (hm : m.wf = true)
    (ha : a + 4 * ws.length ≤ Config.memBytes) : (writeWords m a ws).wf = true :=
  writeBytes_wf m a _ hm (by rw [wordBytes_length]; exact ha)

/-- Two memories in canonical form that read the same at every address are the same list. -/
theorem Memory.ext_of_wf (m m' : Memory) (h : m.wf = true) (h' : m'.wf = true)
    (hr : ∀ a, readByte m a = readByte m' a) : m = m' := by
  rw [Memory.wf_iff] at h h'
  obtain ⟨hp, hv⟩ := h
  obtain ⟨hp', hv'⟩ := h'
  induction m generalizing m' with
  | nil =>
    cases m' with
    | nil => rfl
    | cons y m' =>
      have := hr y.1
      simp only [readByte_nil, readByte_cons, if_true] at this
      exact absurd this.symm (hv' y (by simp)).1
  | cons x m ih =>
    cases m' with
    | nil =>
      have := hr x.1
      simp only [readByte_nil, readByte_cons, if_true] at this
      exact absurd this (hv x (by simp)).1
    | cons y m' =>
      rw [List.pairwise_cons] at hp hp'
      have low : ∀ (l : Memory) (k : Nat), (∀ z ∈ l, k < z.1) → readByte l k = unlistedByte := by
        intro l k hl
        apply readByte_of_not_mem
        intro hk
        obtain ⟨z, hz, hzk⟩ := List.mem_map.1 hk
        have := hl z hz
        omega
      have hkey : x.1 = y.1 := by
        rcases Nat.lt_trichotomy x.1 y.1 with hlt | heq | hgt
        · have h1 := hr x.1
          rw [readByte_cons, if_pos rfl, readByte_cons, if_neg (by omega),
            low m' x.1 (fun z hz => lt_trans hlt (hp'.1 z hz))] at h1
          exact absurd h1 (hv x (by simp)).1
        · exact heq
        · have h1 := hr y.1
          rw [readByte_cons, if_neg (by omega), low m y.1 (fun z hz => lt_trans hgt (hp.1 z hz)),
            readByte_cons, if_pos rfl] at h1
          exact absurd h1.symm (hv' y (by simp)).1
      have hval : x.2 = y.2 := by
        have h1 := hr x.1
        rw [readByte_cons, if_pos rfl, readByte_cons, if_pos hkey.symm] at h1
        exact h1
      have htail : m = m' := by
        refine ih m' (fun a => ?_) hp.2 (fun z hz => hv z (by simp [hz])) hp'.2 (fun z hz => hv' z (by simp [hz]))
        by_cases ha : x.1 = a
        · subst ha
          rw [low m _ hp.1, low m' x.1 (fun z hz => hkey ▸ hp'.1 z hz)]
        · have h1 := hr a
          rw [readByte_cons, if_neg ha, readByte_cons, if_neg (hkey ▸ ha)] at h1
          exact h1
      rw [htail, Prod.ext hkey hval]

/-! ### Little-endian numbers -/

/-- A multi-byte read depends on its own bytes alone. -/
theorem memRead_congr (m m' : Memory) (a n : Nat) (h : ∀ k, a ≤ k → k < a + n → readByte m k = readByte m' k) :
    memRead m a n = memRead m' a n := by
  induction n generalizing a with
  | zero => rfl
  | succ n ih =>
    simp only [memRead]
    rw [h a (le_refl a) (by omega), ih (a + 1) (fun k h1 h2 => h k (by omega) (by omega))]

theorem memRead_lt (m : Memory) (a n : Nat) : memRead m a n < 256 ^ n := by
  induction n generalizing a with
  | zero => simp [memRead]
  | succ n ih =>
    have h1 := ih (a + 1)
    have h2 := (readByte m a).isLt
    simp only [memRead, pow_succ]
    omega

/-- Reading the bytes of a number back from where they stand gives the number, reduced to its width. -/
theorem memRead_of_leBytes (m : Memory) (a n v : Nat)
    (h : ∀ k, k < n → readByte m (a + k) = (leBytes n v).getD k unlistedByte) : memRead m a n = v % 256 ^ n := by
  induction n generalizing a v with
  | zero => simp [memRead, Nat.mod_one]
  | succ n ih =>
    have h0 := h 0 (by omega)
    simp only [leBytes, Nat.add_zero, List.getD_cons_zero] at h0
    have hs : memRead m (a + 1) n = v / 256 % 256 ^ n := by
      apply ih
      intro k hk
      have := h (k + 1) (by omega)
      simp only [leBytes, List.getD_cons_succ] at this
      rw [← this, Nat.add_right_comm, Nat.add_assoc]
    simp only [memRead]
    rw [h0, hs, pow_succ, Nat.mul_comm (256 ^ n) 256, Nat.mod_mul]
    simp [BitVec.toNat_ofNat]

/-- The bytes of word `i` of a list of words. -/
theorem wordBytes_getD (ws : List Lane) (i j : Nat) (hj : j < 4) :
    (wordBytes ws).getD (4 * i + j) unlistedByte = (leBytes 4 (ws.getD i 0).toNat).getD j unlistedByte := by
  induction ws generalizing i with
  | nil =>
    have : j = 0 ∨ j = 1 ∨ j = 2 ∨ j = 3 := by omega
    rcases this with rfl | rfl | rfl | rfl <;> simp [wordBytes, leBytes, unlistedByte]
  | cons w ws ih =>
    have hw : wordBytes (w :: ws) = leBytes 4 w.toNat ++ wordBytes ws := rfl
    cases i with
    | zero =>
      rw [hw, List.getD_append _ _ _ _ (by rw [leBytes_length]; omega)]
      simp
    | succ i =>
      rw [hw, List.getD_append_right _ _ _ _ (by rw [leBytes_length]; omega), leBytes_length,
        show 4 * (i + 1) + j - 4 = 4 * i + j by omega, ih]
      simp

/-- Word `i` reads back after a store of consecutive words. -/
theorem memRead_writeWords (m : Memory) (a i : Nat) (ws : List Lane) (hi : i < ws.length) :
    memRead (writeWords m a ws) (a + 4 * i) 4 = (ws.getD i 0).toNat := by
  rw [memRead_of_leBytes _ _ 4 (ws.getD i 0).toNat]
  · exact Nat.mod_eq_of_lt (by have := (ws.getD i 0).isLt; norm_num; exact this)
  · intro k hk
    rw [writeWords, readByte_writeBytes, if_pos (by rw [wordBytes_length]; omega),
      show a + 4 * i + k - a = 4 * i + k by omega, wordBytes_getD _ _ _ hk]

/-- A store of consecutive words changes no byte outside its own. -/
theorem readByte_writeWords_outside (m : Memory) (a k : Nat) (ws : List Lane) (h : ¬ (a ≤ k ∧ k < a + 4 * ws.length)) :
    readByte (writeWords m a ws) k = readByte m k := by
  rw [writeWords, readByte_writeBytes, wordBytes_length, if_neg h]

end Sys2Proof.Machine
end

