-- ==== Sys2Proof/Laws/State.lean ====
section
/-! SUPPORT. Laws/State.lean: what each named update of the state does to each field, one lemma a field, true by `rfl`. -/

namespace Sys2Proof.Machine

/-! ### `raise` -/

@[simp] theorem raise_lower (c : Cause) (s : State) : (raise c s).lower = s.lower := rfl
@[simp] theorem raise_upper (c : Cause) (s : State) : (raise c s).upper = s.upper := rfl
@[simp] theorem raise_mem (c : Cause) (s : State) : (raise c s).mem = s.mem := rfl
@[simp] theorem raise_holes (c : Cause) (s : State) : (raise c s).holes = s.holes := rfl
@[simp] theorem raise_pending (c : Cause) (s : State) : (raise c s).pending = s.pending := rfl
@[simp] theorem raise_host (c : Cause) (s : State) : (raise c s).host = s.host := rfl
@[simp] theorem raise_window (c : Cause) (s : State) : (raise c s).window = s.window := rfl
@[simp] theorem raise_rdata (c : Cause) (s : State) : (raise c s).rdata = s.rdata := rfl
@[simp] theorem raise_eng_cap (c : Cause) (s : State) : (raise c s).eng.cap = s.eng.cap := rfl
@[simp] theorem raise_eng_src (c : Cause) (s : State) : (raise c s).eng.src = s.eng.src := rfl
@[simp] theorem raise_eng_stride (c : Cause) (s : State) : (raise c s).eng.stride = s.eng.stride := rfl
@[simp] theorem raise_eng_dst (c : Cause) (s : State) : (raise c s).eng.dst = s.eng.dst := rfl
@[simp] theorem raise_eng_cmd (c : Cause) (s : State) : (raise c s).eng.cmd = s.eng.cmd := rfl
@[simp] theorem raise_eng_status (c : Cause) (s : State) : (raise c s).eng.status = setFault c s.eng.status := rfl
@[simp] theorem raise_eng_finfo (c : Cause) (s : State) : (raise c s).eng.finfo = s.eng.cmd := rfl
@[simp] theorem raise_eng_run (c : Cause) (s : State) : (raise c s).eng.run = .faulted := rfl
@[simp] theorem raise_eng_vin (c : Cause) (s : State) : (raise c s).eng.vin = s.eng.vin := rfl
@[simp] theorem raise_eng_vout (c : Cause) (s : State) : (raise c s).eng.vout = s.eng.vout := rfl
@[simp] theorem raise_eng_b (c : Cause) (s : State) : (raise c s).eng.b = s.eng.b := rfl
@[simp] theorem raise_eng_xbuf (c : Cause) (s : State) : (raise c s).eng.xbuf = s.eng.xbuf := rfl
@[simp] theorem raise_eng_mid (c : Cause) (s : State) : (raise c s).eng.mid = s.eng.mid := rfl
@[simp] theorem raise_eng_res (c : Cause) (s : State) : (raise c s).eng.res = s.eng.res := rfl
@[simp] theorem raise_eng_viol (c : Cause) (s : State) : (raise c s).eng.viol = s.eng.viol := rfl

/-! ### `complete` -/

@[simp] theorem complete_lower  (s : State) : (complete s).lower = s.lower := rfl
@[simp] theorem complete_upper  (s : State) : (complete s).upper = s.upper := rfl
@[simp] theorem complete_mem  (s : State) : (complete s).mem = s.mem := rfl
@[simp] theorem complete_holes  (s : State) : (complete s).holes = s.holes := rfl
@[simp] theorem complete_pending  (s : State) : (complete s).pending = s.pending := rfl
@[simp] theorem complete_host  (s : State) : (complete s).host = s.host := rfl
@[simp] theorem complete_window  (s : State) : (complete s).window = s.window := rfl
@[simp] theorem complete_rdata  (s : State) : (complete s).rdata = s.rdata := rfl
@[simp] theorem complete_eng_cap  (s : State) : (complete s).eng.cap = s.eng.cap := rfl
@[simp] theorem complete_eng_src  (s : State) : (complete s).eng.src = s.eng.src := rfl
@[simp] theorem complete_eng_stride  (s : State) : (complete s).eng.stride = s.eng.stride := rfl
@[simp] theorem complete_eng_dst  (s : State) : (complete s).eng.dst = s.eng.dst := rfl
@[simp] theorem complete_eng_cmd  (s : State) : (complete s).eng.cmd = s.eng.cmd := rfl
@[simp] theorem complete_eng_status  (s : State) : (complete s).eng.status = setDone s.eng.status := rfl
@[simp] theorem complete_eng_finfo  (s : State) : (complete s).eng.finfo = s.eng.finfo := rfl
@[simp] theorem complete_eng_run  (s : State) : (complete s).eng.run = s.eng.run := rfl
@[simp] theorem complete_eng_vin  (s : State) : (complete s).eng.vin = s.eng.vin := rfl
@[simp] theorem complete_eng_vout  (s : State) : (complete s).eng.vout = s.eng.vout := rfl
@[simp] theorem complete_eng_b  (s : State) : (complete s).eng.b = s.eng.b := rfl
@[simp] theorem complete_eng_xbuf  (s : State) : (complete s).eng.xbuf = s.eng.xbuf := rfl
@[simp] theorem complete_eng_mid  (s : State) : (complete s).eng.mid = s.eng.mid := rfl
@[simp] theorem complete_eng_res  (s : State) : (complete s).eng.res = s.eng.res := rfl
@[simp] theorem complete_eng_viol  (s : State) : (complete s).eng.viol = s.eng.viol := rfl

/-! ### `startCommand` -/

@[simp] theorem startCommand_lower (v : Word) (s : State) : (startCommand v s).lower = s.lower := rfl
@[simp] theorem startCommand_upper (v : Word) (s : State) : (startCommand v s).upper = s.upper := rfl
@[simp] theorem startCommand_mem (v : Word) (s : State) : (startCommand v s).mem = s.mem := rfl
@[simp] theorem startCommand_holes (v : Word) (s : State) : (startCommand v s).holes = s.holes := rfl
@[simp] theorem startCommand_pending (v : Word) (s : State) : (startCommand v s).pending = s.pending := rfl
@[simp] theorem startCommand_host (v : Word) (s : State) : (startCommand v s).host = s.host := rfl
@[simp] theorem startCommand_window (v : Word) (s : State) : (startCommand v s).window = s.window := rfl
@[simp] theorem startCommand_rdata (v : Word) (s : State) : (startCommand v s).rdata = s.rdata := rfl
@[simp] theorem startCommand_eng_cap (v : Word) (s : State) : (startCommand v s).eng.cap = s.eng.cap := rfl
@[simp] theorem startCommand_eng_src (v : Word) (s : State) : (startCommand v s).eng.src = s.eng.src := rfl
@[simp] theorem startCommand_eng_stride (v : Word) (s : State) : (startCommand v s).eng.stride = s.eng.stride := rfl
@[simp] theorem startCommand_eng_dst (v : Word) (s : State) : (startCommand v s).eng.dst = s.eng.dst := rfl
@[simp] theorem startCommand_eng_cmd (v : Word) (s : State) : (startCommand v s).eng.cmd = v := rfl
@[simp] theorem startCommand_eng_status (v : Word) (s : State) : (startCommand v s).eng.status = s.eng.status := rfl
@[simp] theorem startCommand_eng_finfo (v : Word) (s : State) : (startCommand v s).eng.finfo = s.eng.finfo := rfl
@[simp] theorem startCommand_eng_run (v : Word) (s : State) : (startCommand v s).eng.run = s.eng.run := rfl
@[simp] theorem startCommand_eng_vin (v : Word) (s : State) : (startCommand v s).eng.vin = s.eng.vin := rfl
@[simp] theorem startCommand_eng_vout (v : Word) (s : State) : (startCommand v s).eng.vout = s.eng.vout := rfl
@[simp] theorem startCommand_eng_b (v : Word) (s : State) : (startCommand v s).eng.b = s.eng.b := rfl
@[simp] theorem startCommand_eng_xbuf (v : Word) (s : State) : (startCommand v s).eng.xbuf = s.eng.xbuf := rfl
@[simp] theorem startCommand_eng_mid (v : Word) (s : State) : (startCommand v s).eng.mid = s.eng.mid := rfl
@[simp] theorem startCommand_eng_res (v : Word) (s : State) : (startCommand v s).eng.res = s.eng.res := rfl
@[simp] theorem startCommand_eng_viol (v : Word) (s : State) : (startCommand v s).eng.viol = false := rfl

/-! ### `resetEngine` -/

@[simp] theorem resetEngine_lower  (s : State) : (resetEngine s).lower = s.lower := rfl
@[simp] theorem resetEngine_upper  (s : State) : (resetEngine s).upper = s.upper := rfl
@[simp] theorem resetEngine_mem  (s : State) : (resetEngine s).mem = s.mem := rfl
@[simp] theorem resetEngine_holes  (s : State) : (resetEngine s).holes = s.holes := rfl
@[simp] theorem resetEngine_pending  (s : State) : (resetEngine s).pending = s.pending := rfl
@[simp] theorem resetEngine_host  (s : State) : (resetEngine s).host = s.host := rfl
@[simp] theorem resetEngine_window  (s : State) : (resetEngine s).window = s.window := rfl
@[simp] theorem resetEngine_rdata  (s : State) : (resetEngine s).rdata = s.rdata := rfl
@[simp] theorem resetEngine_eng_cap  (s : State) : (resetEngine s).eng.cap = s.eng.cap := rfl
@[simp] theorem resetEngine_eng_src  (s : State) : (resetEngine s).eng.src = 0 := rfl
@[simp] theorem resetEngine_eng_stride  (s : State) : (resetEngine s).eng.stride = 0 := rfl
@[simp] theorem resetEngine_eng_dst  (s : State) : (resetEngine s).eng.dst = 0 := rfl
@[simp] theorem resetEngine_eng_cmd  (s : State) : (resetEngine s).eng.cmd = 0 := rfl
@[simp] theorem resetEngine_eng_status  (s : State) : (resetEngine s).eng.status = 0 := rfl
@[simp] theorem resetEngine_eng_finfo  (s : State) : (resetEngine s).eng.finfo = 0 := rfl
@[simp] theorem resetEngine_eng_run  (s : State) : (resetEngine s).eng.run = .idle := rfl
@[simp] theorem resetEngine_eng_vin  (s : State) : (resetEngine s).eng.vin = Vector.replicate 64 0 := rfl
@[simp] theorem resetEngine_eng_vout  (s : State) : (resetEngine s).eng.vout = Vector.replicate 64 0 := rfl
@[simp] theorem resetEngine_eng_b  (s : State) : (resetEngine s).eng.b = Vector.replicate 12 (Vector.replicate 64 0) := rfl
@[simp] theorem resetEngine_eng_xbuf  (s : State) : (resetEngine s).eng.xbuf = Vector.replicate 64 (Vector.replicate 64 0) := rfl
@[simp] theorem resetEngine_eng_mid  (s : State) : (resetEngine s).eng.mid = Vector.replicate 64 (Vector.replicate 64 0) := rfl
@[simp] theorem resetEngine_eng_res  (s : State) : (resetEngine s).eng.res = Vector.replicate 64 (Vector.replicate 64 0) := rfl
@[simp] theorem resetEngine_eng_viol  (s : State) : (resetEngine s).eng.viol = false := rfl

/-! ### `recordFootprint` -/

@[simp] theorem recordFootprint_lower (t : Transfer) (s : State) : (recordFootprint t s).lower = s.lower := rfl
@[simp] theorem recordFootprint_upper (t : Transfer) (s : State) : (recordFootprint t s).upper = s.upper := rfl
@[simp] theorem recordFootprint_mem (t : Transfer) (s : State) : (recordFootprint t s).mem = s.mem := rfl
@[simp] theorem recordFootprint_holes (t : Transfer) (s : State) : (recordFootprint t s).holes = s.holes := rfl
@[simp] theorem recordFootprint_pending (t : Transfer) (s : State) : (recordFootprint t s).pending = s.pending := rfl
@[simp] theorem recordFootprint_host (t : Transfer) (s : State) : (recordFootprint t s).host = s.host := rfl
@[simp] theorem recordFootprint_window (t : Transfer) (s : State) : (recordFootprint t s).window = footprint t s :: s.window := rfl
@[simp] theorem recordFootprint_rdata (t : Transfer) (s : State) : (recordFootprint t s).rdata = s.rdata := rfl
@[simp] theorem recordFootprint_eng_cap (t : Transfer) (s : State) : (recordFootprint t s).eng.cap = s.eng.cap := rfl
@[simp] theorem recordFootprint_eng_src (t : Transfer) (s : State) : (recordFootprint t s).eng.src = s.eng.src := rfl
@[simp] theorem recordFootprint_eng_stride (t : Transfer) (s : State) : (recordFootprint t s).eng.stride = s.eng.stride := rfl
@[simp] theorem recordFootprint_eng_dst (t : Transfer) (s : State) : (recordFootprint t s).eng.dst = s.eng.dst := rfl
@[simp] theorem recordFootprint_eng_cmd (t : Transfer) (s : State) : (recordFootprint t s).eng.cmd = s.eng.cmd := rfl
@[simp] theorem recordFootprint_eng_status (t : Transfer) (s : State) : (recordFootprint t s).eng.status = s.eng.status := rfl
@[simp] theorem recordFootprint_eng_finfo (t : Transfer) (s : State) : (recordFootprint t s).eng.finfo = s.eng.finfo := rfl
@[simp] theorem recordFootprint_eng_run (t : Transfer) (s : State) : (recordFootprint t s).eng.run = s.eng.run := rfl
@[simp] theorem recordFootprint_eng_vin (t : Transfer) (s : State) : (recordFootprint t s).eng.vin = s.eng.vin := rfl
@[simp] theorem recordFootprint_eng_vout (t : Transfer) (s : State) : (recordFootprint t s).eng.vout = s.eng.vout := rfl
@[simp] theorem recordFootprint_eng_b (t : Transfer) (s : State) : (recordFootprint t s).eng.b = s.eng.b := rfl
@[simp] theorem recordFootprint_eng_xbuf (t : Transfer) (s : State) : (recordFootprint t s).eng.xbuf = s.eng.xbuf := rfl
@[simp] theorem recordFootprint_eng_mid (t : Transfer) (s : State) : (recordFootprint t s).eng.mid = s.eng.mid := rfl
@[simp] theorem recordFootprint_eng_res (t : Transfer) (s : State) : (recordFootprint t s).eng.res = s.eng.res := rfl
@[simp] theorem recordFootprint_eng_viol (t : Transfer) (s : State) : (recordFootprint t s).eng.viol = s.eng.viol := rfl

@[simp] theorem recordFootprint_eng (t : Transfer) (s : State) : (recordFootprint t s).eng = s.eng := rfl

/-! ### The hosts' synchronisation: `window` alone -/

@[simp] theorem hostSync_lower (s : State) : (hostSync s).lower = s.lower := rfl
@[simp] theorem hostSync_eng (s : State) : (hostSync s).eng = s.eng := rfl
@[simp] theorem hostSync_upper (s : State) : (hostSync s).upper = s.upper := rfl
@[simp] theorem hostSync_mem (s : State) : (hostSync s).mem = s.mem := rfl
@[simp] theorem hostSync_holes (s : State) : (hostSync s).holes = s.holes := rfl
@[simp] theorem hostSync_pending (s : State) : (hostSync s).pending = s.pending := rfl
@[simp] theorem hostSync_host (s : State) : (hostSync s).host = s.host := rfl
@[simp] theorem hostSync_rdata (s : State) : (hostSync s).rdata = s.rdata := rfl
@[simp] theorem hostSync_window (s : State) : (hostSync s).window = [] := rfl
@[simp] theorem hostSignal_lower (token : Nat) (s : State) : (hostSignal token s).lower = s.lower := rfl
@[simp] theorem hostSignal_eng (token : Nat) (s : State) : (hostSignal token s).eng = s.eng := rfl
@[simp] theorem hostSignal_upper (token : Nat) (s : State) : (hostSignal token s).upper = s.upper := rfl
@[simp] theorem hostSignal_mem (token : Nat) (s : State) : (hostSignal token s).mem = s.mem := rfl
@[simp] theorem hostSignal_holes (token : Nat) (s : State) : (hostSignal token s).holes = s.holes := rfl
@[simp] theorem hostSignal_pending (token : Nat) (s : State) : (hostSignal token s).pending = s.pending := rfl
@[simp] theorem hostSignal_host (token : Nat) (s : State) : (hostSignal token s).host = s.host := rfl
@[simp] theorem hostSignal_rdata (token : Nat) (s : State) : (hostSignal token s).rdata = s.rdata := rfl
@[simp] theorem hostSignal_window_length (token : Nat) (s : State) : (hostSignal token s).window.length = s.window.length := by
  simp [hostSignal]
@[simp] theorem hostWait_lower (token : Nat) (s : State) : (hostWait token s).lower = s.lower := rfl
@[simp] theorem hostWait_eng (token : Nat) (s : State) : (hostWait token s).eng = s.eng := rfl
@[simp] theorem hostWait_upper (token : Nat) (s : State) : (hostWait token s).upper = s.upper := rfl
@[simp] theorem hostWait_mem (token : Nat) (s : State) : (hostWait token s).mem = s.mem := rfl
@[simp] theorem hostWait_holes (token : Nat) (s : State) : (hostWait token s).holes = s.holes := rfl
@[simp] theorem hostWait_pending (token : Nat) (s : State) : (hostWait token s).pending = s.pending := rfl
@[simp] theorem hostWait_host (token : Nat) (s : State) : (hostWait token s).host = s.host := rfl
@[simp] theorem hostWait_rdata (token : Nat) (s : State) : (hostWait token s).rdata = s.rdata := rfl
@[simp] theorem hostWait_window_length (token : Nat) (s : State) : (hostWait token s).window.length = s.window.length := by
  simp [hostWait]

@[simp] theorem footprint_orderedBefore (t : Transfer) (s : State) (h : Nat) :
    (footprint t s).orderedBefore h = true ↔ h = s.host := by
  rw [Footprint.orderedBefore, Bool.or_eq_true, decide_eq_true_iff, decide_eq_true_iff]
  simp [footprint]

/-! ### The engines after an update of the current one -/

theorem engines_def (s : State) : s.engines = s.lower ++ s.eng :: s.upper := rfl

@[simp] theorem engines_length (s : State) : s.engines.length = s.lower.length + 1 + s.upper.length := by
  simp [State.engines]; omega

theorem eng_mem_engines (s : State) : s.eng ∈ s.engines := by simp [State.engines]

theorem engines_current (s : State) : s.engines[s.lower.length]? = some s.eng := by simp [State.engines]

/-- An update that keeps `lower` and `upper` changes the current engine alone. -/
theorem engines_set (s t : State) (hl : t.lower = s.lower) (hu : t.upper = s.upper) :
    t.engines = s.engines.set s.lower.length t.eng := by
  simp [State.engines, hl, hu]

@[simp] theorem afterReset_cap (c : Word) : (Engine.afterReset c).cap = c := rfl

end Sys2Proof.Machine
end

