-- ==== Sys2Proof/Laws/Commands.lean ====
section
/-! SUPPORT. Laws/Commands.lean: what the shared operations of the commands and of the host port can do, said once. -/

namespace Sys2Proof.Machine

/-! ### The commands of one form are one operation -/

theorem exec_fht (sh : Shape) (tt : BitVec 8) (hbd : Bool) (s : State) :
    exec (fhtInstr sh tt hbd) s = tx2d sh tt hbd s := by
  cases sh <;> rfl

theorem exec_k1d (k : Kernel) (s : State) : exec (k1dInstr k) s = k1d k s := by
  cases k <;> rfl

/-- Every command is NOP, one of the nineteen `FHT*`, `FWHT4X4` or one of the sixteen `K1D.*`. -/
theorem instr_forms (i : Instr) :
    i = .nop ∨ (∃ sh tt hbd, i = fhtInstr sh tt hbd) ∨ (∃ hbd, i = .fwht4x4 hbd) ∨ ∃ k, i = k1dInstr k := by
  have f : ∀ sh tt hbd, i = fhtInstr sh tt hbd →
      i = .nop ∨ (∃ sh tt hbd, i = fhtInstr sh tt hbd) ∨ (∃ hbd, i = .fwht4x4 hbd) ∨ ∃ k, i = k1dInstr k :=
    fun sh tt hbd h => .inr (.inl ⟨sh, tt, hbd, h⟩)
  have k : ∀ n, i = k1dInstr n →
      i = .nop ∨ (∃ sh tt hbd, i = fhtInstr sh tt hbd) ∨ (∃ hbd, i = .fwht4x4 hbd) ∨ ∃ k, i = k1dInstr k :=
    fun n h => .inr (.inr (.inr ⟨n, h⟩))
  cases i with
  | nop => exact .inl rfl
  | fht4x4 tt hbd => exact f .s4x4 tt hbd rfl
  | fht8x8 tt hbd => exact f .s8x8 tt hbd rfl
  | fht16x16 tt hbd => exact f .s16x16 tt hbd rfl
  | fht32x32 tt hbd => exact f .s32x32 tt hbd rfl
  | fht64x64 tt hbd => exact f .s64x64 tt hbd rfl
  | fht4x8 tt hbd => exact f .s4x8 tt hbd rfl
  | fht8x4 tt hbd => exact f .s8x4 tt hbd rfl
  | fht8x16 tt hbd => exact f .s8x16 tt hbd rfl
  | fht16x8 tt hbd => exact f .s16x8 tt hbd rfl
  | fht16x32 tt hbd => exact f .s16x32 tt hbd rfl
  | fht32x16 tt hbd => exact f .s32x16 tt hbd rfl
  | fht32x64 tt hbd => exact f .s32x64 tt hbd rfl
  | fht64x32 tt hbd => exact f .s64x32 tt hbd rfl
  | fht4x16 tt hbd => exact f .s4x16 tt hbd rfl
  | fht16x4 tt hbd => exact f .s16x4 tt hbd rfl
  | fht8x32 tt hbd => exact f .s8x32 tt hbd rfl
  | fht32x8 tt hbd => exact f .s32x8 tt hbd rfl
  | fht16x64 tt hbd => exact f .s16x64 tt hbd rfl
  | fht64x16 tt hbd => exact f .s64x16 tt hbd rfl
  | fwht4x4 hbd => exact .inr (.inr (.inl ⟨hbd, rfl⟩))
  | k1dFdct4 => exact k .fdct4 rfl
  | k1dFdct8 => exact k .fdct8 rfl
  | k1dFdct16 => exact k .fdct16 rfl
  | k1dFdct32 => exact k .fdct32 rfl
  | k1dFdct64 => exact k .fdct64 rfl
  | k1dFadst4 => exact k .fadst4 rfl
  | k1dFadst8 => exact k .fadst8 rfl
  | k1dFadst16 => exact k .fadst16 rfl
  | k1dFhalfright32 => exact k .fhalfright32 rfl
  | k1dFhalfright64 => exact k .fhalfright64 rfl
  | k1dFidtx4 => exact k .fidtx4 rfl
  | k1dFidtx8 => exact k .fidtx8 rfl
  | k1dFidtx16 => exact k .fidtx16 rfl
  | k1dFidtx32 => exact k .fidtx32 rfl
  | k1dFidtx64 => exact k .fidtx64 rfl
  | k1dWht4 => exact k .wht4 rfl

/-! ### `perform` -/

/-- Everything `perform` can answer with a next state: an alignment fault, a budget fault, or completion. -/
theorem perform_next {t : Transfer} {work : Memory → Engine → Work} {s s' : State} (h : perform t work s = .next s') :
    (misaligned t s.eng = true ∧ s' = raise .operandAlign s) ∨
    (misaligned t s.eng = false ∧ regionRefusal t s = none ∧ readsAdmitted t s = true ∧
      (work s.mem s.eng).computed.viol = true ∧ debugChecks s.eng = true ∧
      s' = raise .rangeBudget { recordFootprint t s with eng := (work s.mem s.eng).computed }) ∨
    (misaligned t s.eng = false ∧ regionRefusal t s = none ∧ readsAdmitted t s = true ∧ writesAdmitted t s = true ∧
      ((work s.mem s.eng).computed.viol && debugChecks s.eng) = false ∧
      s' = complete { recordFootprint t s with
        eng := (work s.mem s.eng).finished
        mem := writeWords s.mem s.eng.dst.toNat (work s.mem s.eng).words }) := by
  unfold perform at h
  split at h
  · rename_i hm
    exact .inl ⟨hm, by injection h with h; exact h.symm⟩
  · rename_i hm
    have hm : misaligned t s.eng = false := by simpa using hm
    split at h
    · cases h
    · rename_i hr
      split at h
      · rename_i ha
        split at h
        · rename_i hv
          rw [Bool.and_eq_true] at hv
          exact .inr (.inl ⟨hm, hr, ha, hv.1, hv.2, by injection h with h; exact h.symm⟩)
        · rename_i hv
          split at h
          · rename_i hw
            exact .inr (.inr ⟨hm, hr, ha, hw, by simpa using hv, by injection h with h; exact h.symm⟩)
          · cases h
      · cases h

/-- `perform` on ready operands, in budget or with the checks off. -/
theorem perform_ready {t : Transfer} {work : Memory → Engine → Work} {s : State} (h : Ready t s)
    (hb : ((work s.mem s.eng).computed.viol && debugChecks s.eng) = false) :
    perform t work s = .next (complete { recordFootprint t s with
      eng := (work s.mem s.eng).finished
      mem := writeWords s.mem s.eng.dst.toNat (work s.mem s.eng).words }) := by
  unfold perform
  rw [h.aligned, h.regions, h.reads, hb, h.writes]
  rfl

/-! ### The scratch writes leave the control registers alone -/

/-- An engine update that sets scratch and the budget bit alone leaves what the host sees. -/
theorem visible_scratch (e : Engine) (vin vout : Vector Lane 64) (b : Vector (Vector Lane 64) 12)
    (x : Vector (Vector Sample 64) 64) (m r : Vector (Vector Lane 64) 64) (v : Bool) :
    ({ e with vin := vin, vout := vout, b := b, xbuf := x, mid := m, res := r, viol := v } : Engine).visible = e.visible := by
  simp only [Engine.visible]

@[simp] theorem writeLanes_visible (e : Engine) (k : KernelRun) : (writeLanes e k).visible = e.visible := by
  simp only [writeLanes, Engine.visible]

@[simp] theorem foldl_writeLanes_visible (ks : List KernelRun) (e : Engine) :
    (ks.foldl writeLanes e).visible = e.visible := by
  induction ks generalizing e with
  | nil => rfl
  | cons k ks ih => rw [List.foldl_cons, ih, writeLanes_visible]

theorem writeScratch_visible (e : Engine) (x : List (List Sample)) (p : Passes × Bool) :
    (writeScratch e x p).visible = e.visible := by
  unfold writeScratch
  rw [visible_scratch, foldl_writeLanes_visible]

theorem blockWork_visible (sh : Shape) (t : TxType) (x : List (List Sample)) (e : Engine) :
    (blockWork sh t x e).computed.visible = e.visible ∧ (blockWork sh t x e).finished.visible = e.visible := by
  unfold blockWork
  dsimp only
  exact ⟨writeScratch_visible _ _ _, (visible_scratch _ _ _ _ _ _ _ _).trans (writeScratch_visible _ _ _)⟩

theorem whtWork_visible (x : List (List Lane)) (e : Engine) :
    (whtWork x e).computed.visible = e.visible ∧ (whtWork x e).finished.visible = e.visible := by
  unfold whtWork
  dsimp only
  constructor <;> exact (visible_scratch _ _ _ _ _ _ _ _).trans (foldl_writeLanes_visible _ e)

theorem vectorWork_visible (k : Kernel) (v : List Lane) (e : Engine) :
    (vectorWork k v e).computed.visible = e.visible ∧ (vectorWork k v e).finished.visible = e.visible := by
  unfold vectorWork
  dsimp only
  constructor <;> exact (visible_scratch _ _ _ _ _ _ _ _).trans (writeLanes_visible e _)

/-! ### Which engine -/

/-- Bringing an engine into `eng` moves no engine and touches nothing else. -/
theorem focus_some {k : Nat} {s t : State} (h : focus k s = some t) :
    t.engines = s.engines ∧ t.lower.length = k ∧ s.engines[k]? = some t.eng ∧ t.mem = s.mem ∧ t.holes = s.holes ∧
      t.pending = s.pending ∧ t.host = s.host ∧ t.window = s.window ∧ t.rdata = s.rdata := by
  unfold focus at h
  split at h
  · rename_i hk
    injection h with h
    subst h
    refine ⟨rfl, hk.symm, ?_, rfl, rfl, rfl, rfl, rfl, rfl⟩
    rw [hk]
    exact engines_current s
  · split at h
    · cases h
    · rename_i e he
      injection h with h
      subst h
      have hlt : k < s.engines.length := by
        rcases Nat.lt_or_ge k s.engines.length with hlt | hge
        · exact hlt
        · rw [List.getElem?_eq_none hge] at he; cases he
      have hge : s.engines[k] = e := by
        rw [List.getElem?_eq_getElem hlt] at he
        injection he
      refine ⟨?_, ?_, he, rfl, rfl, rfl, rfl, rfl, rfl⟩
      · show s.engines.take k ++ e :: s.engines.drop (k + 1) = s.engines
        rw [← hge, List.getElem_cons_drop hlt, List.take_append_drop]
      · show (s.engines.take k).length = k
        rw [List.length_take]; omega

/-- An engine the system has can be brought into `eng`; another cannot. -/
theorem focus_isSome (k : Nat) (s : State) : (focus k s).isSome = true ↔ k < s.engines.length := by
  unfold focus
  split
  · rename_i h
    simp [h]; omega
  · split
    · rename_i h
      simpa using List.getElem?_eq_none_iff.1 h
    · rename_i h
      have := (List.getElem?_eq_some_iff.1 h).1
      simpa using this

theorem focus_current (s : State) : focus s.lower.length s = some s := by simp [focus]

/-! ### The status register -/

theorem setFault_of_idle (c : Cause) (st : Word) (h : st = 0 ∨ st = 1) : setFault c st = faultStatus c := by
  rcases h with rfl | rfl <;> cases c <;> decide

theorem setDone_of_idle (st : Word) (h : st = 0 ∨ st = 1) : setDone st = 1 := by
  rcases h with rfl | rfl <;> decide

end Sys2Proof.Machine
end

