-- ==== Sys2Proof/Laws/PerInstr.lean ====
section
/-! SUPPORT. Laws/PerInstr.lean: the family EncodeRow, one lemma a command: its command word lies in its row of spec/opcode_table.json
(30_encoding.md R74). -/

namespace Sys2Proof.Laws.EncodeRow

/-- The word of a command matches the mask and match of its row. -/
def Statement (i : Instr) : Prop := encode i &&& rowMask i = rowMatch i

/-- The mask of the `FHT*` rows leaves TXTYPE and HBD free. -/
theorem assemble_fht (hbd : Bool) (opc sel : Nat) (tt : BitVec 8) :
    assemble hbd opc sel tt &&& 0xFFEFFF00#32 = assemble false opc sel 0 &&& 0xFFEFFF00#32 := by
  have h1 : BitVec.ofNat 32 hbd.toNat <<< 20 &&& 0xFFEFFF00#32 = 0#32 := by cases hbd <;> decide
  have h2 : tt.setWidth 32 &&& 0xFFEFFF00#32 = 0#32 := by revert tt; decide
  have h (a b c d m : Word) : (a ||| b ||| c ||| d) &&& m = (a &&& m) ||| (b &&& m) ||| (c &&& m) ||| (d &&& m) := by
    ext i; simp; cases m[i] <;> simp
  unfold assemble
  rw [h, h, h1, h2]
  simp

theorem nop : Statement .nop := rfl

theorem fht4x4 (tt : BitVec 8) (hbd : Bool) : Statement (.fht4x4 tt hbd) :=
  (assemble_fht hbd 1 _ tt).trans rfl

theorem fht8x8 (tt : BitVec 8) (hbd : Bool) : Statement (.fht8x8 tt hbd) :=
  (assemble_fht hbd 1 _ tt).trans rfl

theorem fht16x16 (tt : BitVec 8) (hbd : Bool) : Statement (.fht16x16 tt hbd) :=
  (assemble_fht hbd 1 _ tt).trans rfl

theorem fht32x32 (tt : BitVec 8) (hbd : Bool) : Statement (.fht32x32 tt hbd) :=
  (assemble_fht hbd 1 _ tt).trans rfl

theorem fht64x64 (tt : BitVec 8) (hbd : Bool) : Statement (.fht64x64 tt hbd) :=
  (assemble_fht hbd 1 _ tt).trans rfl

theorem fht4x8 (tt : BitVec 8) (hbd : Bool) : Statement (.fht4x8 tt hbd) :=
  (assemble_fht hbd 1 _ tt).trans rfl

theorem fht8x4 (tt : BitVec 8) (hbd : Bool) : Statement (.fht8x4 tt hbd) :=
  (assemble_fht hbd 1 _ tt).trans rfl

theorem fht8x16 (tt : BitVec 8) (hbd : Bool) : Statement (.fht8x16 tt hbd) :=
  (assemble_fht hbd 1 _ tt).trans rfl

theorem fht16x8 (tt : BitVec 8) (hbd : Bool) : Statement (.fht16x8 tt hbd) :=
  (assemble_fht hbd 1 _ tt).trans rfl

theorem fht16x32 (tt : BitVec 8) (hbd : Bool) : Statement (.fht16x32 tt hbd) :=
  (assemble_fht hbd 1 _ tt).trans rfl

theorem fht32x16 (tt : BitVec 8) (hbd : Bool) : Statement (.fht32x16 tt hbd) :=
  (assemble_fht hbd 1 _ tt).trans rfl

theorem fht32x64 (tt : BitVec 8) (hbd : Bool) : Statement (.fht32x64 tt hbd) :=
  (assemble_fht hbd 1 _ tt).trans rfl

theorem fht64x32 (tt : BitVec 8) (hbd : Bool) : Statement (.fht64x32 tt hbd) :=
  (assemble_fht hbd 1 _ tt).trans rfl

theorem fht4x16 (tt : BitVec 8) (hbd : Bool) : Statement (.fht4x16 tt hbd) :=
  (assemble_fht hbd 1 _ tt).trans rfl

theorem fht16x4 (tt : BitVec 8) (hbd : Bool) : Statement (.fht16x4 tt hbd) :=
  (assemble_fht hbd 1 _ tt).trans rfl

theorem fht8x32 (tt : BitVec 8) (hbd : Bool) : Statement (.fht8x32 tt hbd) :=
  (assemble_fht hbd 1 _ tt).trans rfl

theorem fht32x8 (tt : BitVec 8) (hbd : Bool) : Statement (.fht32x8 tt hbd) :=
  (assemble_fht hbd 1 _ tt).trans rfl

theorem fht16x64 (tt : BitVec 8) (hbd : Bool) : Statement (.fht16x64 tt hbd) :=
  (assemble_fht hbd 1 _ tt).trans rfl

theorem fht64x16 (tt : BitVec 8) (hbd : Bool) : Statement (.fht64x16 tt hbd) :=
  (assemble_fht hbd 1 _ tt).trans rfl

theorem fwht4x4 (hbd : Bool) : Statement (.fwht4x4 hbd) := by cases hbd <;> rfl

theorem k1dFdct4 : Statement .k1dFdct4 := rfl

theorem k1dFdct8 : Statement .k1dFdct8 := rfl

theorem k1dFdct16 : Statement .k1dFdct16 := rfl

theorem k1dFdct32 : Statement .k1dFdct32 := rfl

theorem k1dFdct64 : Statement .k1dFdct64 := rfl

theorem k1dFadst4 : Statement .k1dFadst4 := rfl

theorem k1dFadst8 : Statement .k1dFadst8 := rfl

theorem k1dFadst16 : Statement .k1dFadst16 := rfl

theorem k1dFhalfright32 : Statement .k1dFhalfright32 := rfl

theorem k1dFhalfright64 : Statement .k1dFhalfright64 := rfl

theorem k1dFidtx4 : Statement .k1dFidtx4 := rfl

theorem k1dFidtx8 : Statement .k1dFidtx8 := rfl

theorem k1dFidtx16 : Statement .k1dFidtx16 := rfl

theorem k1dFidtx32 : Statement .k1dFidtx32 := rfl

theorem k1dFidtx64 : Statement .k1dFidtx64 := rfl

theorem k1dWht4 : Statement .k1dWht4 := rfl

end Sys2Proof.Laws.EncodeRow
end

