-- ==== Sys2Proof/Tests/Slice0.lean ====
section
/-! SUPPORT. Tests/Slice0.lean: the model's own tests, their expected results written out from spec/ (the rules' worked examples and
95_test_vectors.md), and for every statement with hypotheses a state and operands that meet them. -/

namespace Sys2Proof.Tests

set_option Elab.async false
set_option maxRecDepth 100000

open Sys2Proof.Machine

/-- One engine with the given registers over a memory. -/
def bench (cap src stride dst : Word) (mem : Memory) : State :=
  { State.reset with
    eng := { Engine.afterReset cap with src := src, stride := stride, dst := dst }
    upper := []
    mem := mem
    holes := [] }

/-- A memory that holds bytes from an address on. -/
def bytesAt (a : Nat) (bs : List Byte) : Memory := writeBytes [] a bs

/-- A memory that holds 32-bit numbers from an address on. -/
def wordsAt (a : Nat) (ws : List Int) : Memory := writeWords [] a (ws.map (BitVec.ofInt 32))

/-- The state an outcome holds. -/
def next? (o : Host.Outcome State Fault Refusal) : Option State :=
  match o with
  | .next s => some s
  | .fault _ => none
  | .refused _ => none

/-- The refusal an outcome holds. -/
def refusal? (o : Host.Outcome State Fault Refusal) : Option Refusal :=
  match o with
  | .next _ => none
  | .fault _ => none
  | .refused r => some r

/-- The fault an outcome holds. -/
def fault? (o : Host.Outcome State Fault Refusal) : Option Fault :=
  match o with
  | .next _ => none
  | .fault f => some f
  | .refused _ => none

/-- The first `n` output words after an outcome. -/
def outWords (o : Host.Outcome State Fault Refusal) (n : Nat) : List Int :=
  match o with
  | .next s => (List.range n).map fun k => (BitVec.ofNat 32 (memRead s.mem (outAddr s.eng k) 4)).toInt
  | .fault _ => []
  | .refused _ => []

/-- STATUS and FINFO after an outcome. -/
def statusInfo (o : Host.Outcome State Fault Refusal) : Option (Word × Word) :=
  (next? o).map fun s => (s.eng.status, s.eng.finfo)

/-- STATUS and FINFO after a command word. -/
def after (v : Word) (s : State) : Option (Word × Word) := statusInfo (writeCmd v s)

/-- A one-engine state whose two regions lie apart (95_test_vectors.md Part 7). -/
def plain : State := bench 0 0x1000 64 0x2000 []

/-! ### Well-formedness: the one check, TXTYPE up to 15 (R69) -/

theorem test_wf_type_16_refused :
    [.s4x4, .s8x8, .s16x16, .s32x32, .s64x64, .s4x8, .s8x4, .s8x16, .s16x8, .s16x32, .s32x16, .s32x64, .s64x32, .s4x16, .s16x4, .s8x32, .s32x8, .s16x64, .s64x16].all
      (fun sh => !(fhtInstr sh 16 false).WellFormed && !(fhtInstr sh 255 true).WellFormed && (fhtInstr sh 15 true).WellFormed) = true := by
  decide

/-! ### Decoding: the word of every command, written out from R65 to R71 -/

theorem test_decode_nop : decode 0x00000000 = .ok .nop := by decide
theorem test_decode_fht4x4 : decode 0x00110008 = .ok (.fht4x4 8 true) := by decide
theorem test_decode_fht8x8 : decode 0x0001010D = .ok (.fht8x8 13 false) := by decide
theorem test_decode_fht16x16 : decode 0x00110202 = .ok (.fht16x16 2 true) := by decide
theorem test_decode_fht32x32 : decode 0x00010307 = .ok (.fht32x32 7 false) := by decide
theorem test_decode_fht64x64 : decode 0x0011040C = .ok (.fht64x64 12 true) := by decide
theorem test_decode_fht4x8 : decode 0x00010501 = .ok (.fht4x8 1 false) := by decide
theorem test_decode_fht8x4 : decode 0x00110606 = .ok (.fht8x4 6 true) := by decide
theorem test_decode_fht8x16 : decode 0x0001070B = .ok (.fht8x16 11 false) := by decide
theorem test_decode_fht16x8 : decode 0x00110800 = .ok (.fht16x8 0 true) := by decide
theorem test_decode_fht16x32 : decode 0x00010905 = .ok (.fht16x32 5 false) := by decide
theorem test_decode_fht32x16 : decode 0x00110A0A = .ok (.fht32x16 10 true) := by decide
theorem test_decode_fht32x64 : decode 0x00010B0F = .ok (.fht32x64 15 false) := by decide
theorem test_decode_fht64x32 : decode 0x00110C04 = .ok (.fht64x32 4 true) := by decide
theorem test_decode_fht4x16 : decode 0x00010D09 = .ok (.fht4x16 9 false) := by decide
theorem test_decode_fht16x4 : decode 0x00110E0E = .ok (.fht16x4 14 true) := by decide
theorem test_decode_fht8x32 : decode 0x00010F03 = .ok (.fht8x32 3 false) := by decide
theorem test_decode_fht32x8 : decode 0x00111008 = .ok (.fht32x8 8 true) := by decide
theorem test_decode_fht16x64 : decode 0x0001110D = .ok (.fht16x64 13 false) := by decide
theorem test_decode_fht64x16 : decode 0x00111202 = .ok (.fht64x16 2 true) := by decide
theorem test_decode_fwht4x4 : decode 0x00120000 = .ok (.fwht4x4 true) := by decide
theorem test_decode_k1dFdct4 : decode 0x00030000 = .ok .k1dFdct4 := by decide
theorem test_decode_k1dFdct8 : decode 0x00030100 = .ok .k1dFdct8 := by decide
theorem test_decode_k1dFdct16 : decode 0x00030200 = .ok .k1dFdct16 := by decide
theorem test_decode_k1dFdct32 : decode 0x00030300 = .ok .k1dFdct32 := by decide
theorem test_decode_k1dFdct64 : decode 0x00030400 = .ok .k1dFdct64 := by decide
theorem test_decode_k1dFadst4 : decode 0x00030800 = .ok .k1dFadst4 := by decide
theorem test_decode_k1dFadst8 : decode 0x00030900 = .ok .k1dFadst8 := by decide
theorem test_decode_k1dFadst16 : decode 0x00030A00 = .ok .k1dFadst16 := by decide
theorem test_decode_k1dFhalfright32 : decode 0x00030B00 = .ok .k1dFhalfright32 := by decide
theorem test_decode_k1dFhalfright64 : decode 0x00030C00 = .ok .k1dFhalfright64 := by decide
theorem test_decode_k1dFidtx4 : decode 0x00031000 = .ok .k1dFidtx4 := by decide
theorem test_decode_k1dFidtx8 : decode 0x00031100 = .ok .k1dFidtx8 := by decide
theorem test_decode_k1dFidtx16 : decode 0x00031200 = .ok .k1dFidtx16 := by decide
theorem test_decode_k1dFidtx32 : decode 0x00031300 = .ok .k1dFidtx32 := by decide
theorem test_decode_k1dFidtx64 : decode 0x00031400 = .ok .k1dFidtx64 := by decide
theorem test_decode_k1dWht4 : decode 0x00031800 = .ok .k1dWht4 := by decide

/-- One word of each class, bit by bit: reserved (11), HBD, OPC (4), SEL (8), TXTYPE (8). -/
theorem test_decode_bits :
    decode 0b00000000000_0_0000_00000000_00000000 = .ok .nop ∧
    decode 0b00000000000_1_0001_00010010_00001111 = .ok (.fht64x16 15 true) ∧
    decode 0b00000000000_0_0010_00000000_00000000 = .ok (.fwht4x4 false) ∧
    decode 0b00000000000_0_0011_00001010_00000000 = .ok .k1dFadst16 ∧
    decode 0b00000000001_0_0000_00000000_00000000 = .reject .reservedBits := by
  decide

/-- The rejected words of 95_test_vectors.md Part 7. -/
theorem test_decode_rejects :
    decode 0x80000000 = .reject .reservedBits ∧ decode 0x00040000 = .reject .opcode ∧ decode 0x000F0000 = .reject .opcode ∧
    decode 0x00011300 = .reject .noSuchShape ∧ decode 0x00011310 = .reject .noSuchShape ∧ decode 0x00000001 = .reject .nopOperands ∧
    decode 0x00000100 = .reject .nopOperands ∧ decode 0x00100000 = .reject .nopOperands ∧ decode 0x00020100 = .reject .whtOperands ∧
    decode 0x00020001 = .reject .whtOperands ∧ decode 0x00030500 = .reject .noSuchKernel ∧ decode 0x0003FF00 = .reject .noSuchKernel ∧
    decode 0x00030001 = .reject .k1dOperands ∧ decode 0x00130000 = .reject .k1dOperands := by
  decide

theorem test_decodeTableWord : decodeTableWord 32 0x00110605 = some (.fht8x4 5 true) ∧ decodeTableWord 32 0x00011300 = none := by
  decide

/-! ### Primitives (95_test_vectors.md Part 2) -/

theorem test_roundShift :
    [((5 : Int), 1), (-5, 1), (6, 2), (-6, 2), (-7, 2), (-1, 1), (8192, 14), (-8192, 14), (8191, 14), (-8193, 14)].map
      (fun p => ((roundShift p.1 p.2).run false).1) = [3, -2, 2, -1, -2, 0, 1, 0, 0, -1] := by
  decide

theorem test_roundShiftSigned :
    [((5 : Int), 1), (-5, 1), (6, 2), (-6, 2), (-7, 2), (-1, 1), (-3, 1), (0, 4)].map
      (fun p => roundShiftSigned p.1 p.2) = [3, -3, 2, -2, -2, -1, -2, 0] := by
  decide

theorem test_narrowS :
    [(2147483647 : Int), 2147483648, -2147483648, -2147483649, 4294967301, 6442450944].map
      (fun v => (((narrowS v).run false).1.toInt, ((narrowS v).run false).2)) =
    [(2147483647, false), (-2147483648, true), (-2147483648, false), (2147483647, true), (5, true), (-2147483648, true)] := by
  decide

theorem test_rot :
    ((rot (cospi 32) 100 (cospi 32) 100).run false).1 = 141 ∧ ((rot (cospi 32) 100 (-cospi 32) 100).run false).1 = 0 ∧
    ((rot (cospi 48) 100 (cospi 16) 50).run false).1 = 84 ∧ ((rot (cospi 16) 100 (-cospi 48) 50).run false).1 = 73 := by
  decide

theorem test_mulc :
    [(100 : Lane), -100, 1, -1, 3, -3].map (fun a => ((mulc a sqrt2).run false).1.toInt) = [141, -141, 1, -1, 4, -4] := by
  decide

theorem test_constants :
    [0, 1, 16, 32, 48, 63, 64].map cospi = [16384, 16379, 15137, 11585, 6270, 402, 0] ∧ cospiTable.length = 65 := by
  decide

/-! ### K1D (95_test_vectors.md Part 3) -/

/-- What a kernel makes of a vector, and whether it stayed in budget. -/
def kernelOut (k : Kernel) (v : List Int) : List Int × Bool :=
  let p := (runKernel k (v.map (BitVec.ofInt 32))).run false
  (p.1.vout.map BitVec.toInt, p.2)

/-- The output words of a K1D command on a vector. -/
def k1dOut (i : Instr) (v : List Int) : List Int := outWords (exec i (bench 0 0x1000 0 0x2000 (wordsAt 0x1000 v))) v.length

theorem test_k1dFdct4 : k1dOut .k1dFdct4 [16, 16, 16, 16] = [45, 0, 0, 0] := by decide +kernel

theorem test_k1dFdct4_large : k1dOut .k1dFdct4 [0x40000000, 0x40000000, 0, 0] = [1518469120, 1402929152, 0, -581107712] := by decide +kernel

theorem test_k1dFdct8 : k1dOut .k1dFdct8 [1, 2, 3, 4, 5, 6, 7, 8] = [25, -13, 0, -1, 0, -1, 0, -1] := by decide +kernel

theorem test_k1dFdct8_impulse : k1dOut .k1dFdct8 [0, 0, 0, 0, 0, 0, 0, 1000] = [707, -981, 924, -831, 707, -556, 383, -195] := by decide +kernel

theorem test_k1dFdct16 : k1dOut .k1dFdct16 [1, 2, 3, 4, 5, 6, 7, 8, 9, 10, 11, 12, 13, 14, 15, 16] =
    [96, -51, 0, -6, 0, -2, 0, -1, 0, 0, 0, 0, 0, -1, 0, 0] := by decide +kernel

theorem test_k1dFdct32 : ((kernelOut .fdct32 (1000 :: List.replicate 31 0)).1.take 8, (kernelOut .fdct32 (1000 :: List.replicate 31 0)).1.sum) =
    ([707, 999, 995, 989, 981, 970, 957, 942], 20576) := by decide +kernel

theorem test_k1dFdct64 : ((kernelOut .fdct64 (List.replicate 63 0 ++ [1000])).1.take 8, (kernelOut .fdct64 (List.replicate 63 0 ++ [1000])).1.sum) =
    ([707, -1000, 999, -997, 995, -992, 989, -985], 201) := by decide +kernel

theorem test_k1dFadst4 : k1dOut .k1dFadst4 [16, 32, 48, 64] = [123, -13, 4, -1] := by decide +kernel

theorem test_k1dFadst4_alt : k1dOut .k1dFadst4 [100, -100, 100, -100] = [-40, 82, -17, 267] := by decide +kernel

theorem test_k1dFadst8 : k1dOut .k1dFadst8 [1, 2, 3, 4, 5, 6, 7, 8] = [28, -2, 2, 0, 0, 1, 0, 0] := by decide +kernel

theorem test_k1dFadst8_const : k1dOut .k1dFadst8 (List.replicate 8 100) = [510, 172, 107, 79, 65, 56, 53, 50] := by decide +kernel

theorem test_k1dFadst16 : k1dOut .k1dFadst16 [100, -50, 25, 0, -75, 60, 10, -5, 7, -7, 30, -30, 2, 1, 0, -1] =
    [6, 13, -28, -37, 25, 56, 92, 79, -74, -71, 29, 88, 268, 263, 69, 104] := by decide +kernel

theorem test_k1dFadst16_impulse : k1dOut .k1dFadst16 (List.replicate 15 0 ++ [1000]) =
    [999, -989, 970, -942, 904, -858, 803, -741, 672, -595, 514, -428, 337, -243, 147, -49] := by decide +kernel

theorem test_k1dFhalfright32 : k1dOut .k1dFhalfright32 ((List.range 32).map fun i => (i : Int)) =
    [376, -72, -1, -8, 1, -2, 1, -2, 1, 0, 1, -1, 1, 0, -2, 0] ++ (List.range 16).map fun i => 4 * (i : Int) := by decide +kernel

theorem test_k1dFhalfright64 : kernelOut .fhalfright64 (List.replicate 64 1) = (23 :: List.replicate 31 0 ++ List.replicate 32 6, false) := by decide +kernel

theorem test_k1dFidtx4 : k1dOut .k1dFidtx4 [16, -16, 100, 3] = [23, -23, 141, 4] := by decide +kernel

theorem test_k1dFidtx8 : k1dOut .k1dFidtx8 [-3, -2, -1, 0, 1, 2, 3, 4] = [-6, -4, -2, 0, 2, 4, 6, 8] := by decide +kernel

theorem test_k1dFidtx16 : k1dOut .k1dFidtx16 [1, 2, 3, 4, 5, 6, 7, 8, 9, 10, 11, 12, 13, 14, 15, 16] =
    [3, 6, 8, 11, 14, 17, 20, 23, 25, 28, 31, 34, 37, 40, 42, 45] := by decide +kernel

theorem test_k1dFidtx32 : k1dOut .k1dFidtx32 (List.replicate 32 (-5)) = List.replicate 32 (-20) := by decide +kernel

theorem test_k1dFidtx64 : kernelOut .fidtx64 (List.replicate 64 (-100)) = (List.replicate 64 (-566), false) := by decide +kernel

theorem test_k1dWht4 : k1dOut .k1dWht4 [1, 2, 3, 4] = [5, -2, 0, -1] := by decide +kernel

theorem test_k1dWht4_floor : k1dOut .k1dWht4 [0, 0, 0, 1] = [1, -1, 0, -1] := by decide +kernel

/-! ### The budget check (95_test_vectors.md P4) -/

/-- The start of P4 with the given CAP. -/
def p4 (cap : Word) : State := bench cap 0x100 0 0x200 (wordsAt 0x100 [0x7FFFFFFF, 0, 0, 0x7FFFFFFF, 7])

theorem test_p4_release : outWords (writeCmd 0x00030000 (p4 0)) 4 = [-1, 0, -1, 0] ∧ after 0x00030000 (p4 0) = some (1, 0) := by
  decide +kernel

theorem test_p4_debug :
    after 0x00030000 (p4 1) = some (0x32, 0x00030000) ∧ (next? (writeCmd 0x00030000 (p4 1))).map State.mem = some (p4 1).mem := by
  decide +kernel

/-! ### FHT and FWHT4X4 (95_test_vectors.md S8, Parts 4 to 6, P2, P5) -/

/-- The bytes of signed 8-bit samples. -/
def bytes8 (v : List Int) : List Byte := v.map (BitVec.ofInt 8)

/-- The bytes of signed 16-bit samples. -/
def bytes16 (v : List Int) : List Byte := v.flatMap fun x => leBytes 2 (BitVec.ofInt 16 x).toNat

/-- The first `n` output words of a command on bytes at 0x1000. -/
def blockOut (i : Instr) (stride : Word) (bs : List Byte) (n : Nat) : List Int :=
  outWords (exec i (bench 0 0x1000 stride 0x2000 (bytesAt 0x1000 bs))) n

/-- The block of Part 4. -/
def part4 : List Byte := bytes8 [10, 20, 30, 40, -5, 15, -25, 35, 7, 0, -7, 100, -128, 127, 64, -64]

theorem test_fht4x4_scenario : blockOut (.fht4x4 0 false) 4 (List.replicate 16 1) 16 = 32 :: List.replicate 15 0 := by decide +kernel

theorem test_fht4x4_flipadst_adst : blockOut (.fht4x4 8 false) 4 part4 16 =
    [603, -215, -33, -402, 134, -53, -590, -508, 113, 336, -1124, -256, -298, 351, -777, -330] := by decide +kernel

theorem test_fht8x8 : blockOut (.fht8x8 0 false) 8 (List.replicate 64 255) 64 = -65 :: List.replicate 63 0 := by decide +kernel

theorem test_fht8x4_flip : blockOut (.fht8x4 5 true) 8 (bytes16 ((List.range 32).map fun i => 10 * ((i : Int) + 1))) 32 =
    [6294, 3051, 1660, 1332, 1040, 942, 850, 826, -3641, -1230, -758, -563, -461, -404, -372, -359,
     0, 0, 0, 0, 0, 0, 0, 0, -259, -88, -54, -41, -33, -29, -26, -26] := by decide +kernel

theorem test_fht4x8 : blockOut (.fht4x8 10 false) 4 (bytes8 ((List.range 32).map fun i => (i : Int))) 8 =
    [317, 340, 362, 385, -205, -206, -206, -205] := by decide +kernel

theorem test_fht4x16_idtx : blockOut (.fht4x16 9 false) 4 (List.replicate 64 1) 64 = List.replicate 64 9 := by decide +kernel

theorem test_fht16x4_idtx : blockOut (.fht16x4 9 false) 16 (List.replicate 64 1) 64 = List.replicate 64 9 := by decide +kernel

theorem test_fwht4x4 : blockOut (.fwht4x4 false) 4 (bytes8 [1, 2, 3, 4, 5, 6, 7, 8, 9, 10, 11, 12, 13, 14, 15, 16]) 16 =
    [136, -16, 0, -8, -64, 0, 0, 0, 0, 0, 0, 0, -32, 0, 0, 0] := by decide +kernel

theorem test_fwht4x4_hbd : blockOut (.fwht4x4 true) 4 (bytes16 [-255, 255, -255, 255, 0, 1, -1, 2, 100, -37, 64, -128, 7, 7, 7, -7]) 16 =
    [16, 140, -68, -680, -12, -140, 72, -1368, 12, -112, 40, -1332, -16, 112, -44, -704] := by decide +kernel

/-- The dispatch words P1, P2 and P5 name. -/
theorem test_records :
    recordWord (dispatch .s4x4 .dctDct) = 0x00041000 ∧ recordWord (dispatch .s8x4 .dctFlipadst) = 0x00122809 ∧
    recordWord (dispatch .s64x16 .idtx) = 0x00110A54 := by
  decide

/-- The grids of 45_flip.md R141's worked example. -/
theorem test_condition :
    condition (flipClass .dctFlipadst) 4 4 (fun r c => BitVec.ofNat 16 (4 * r + c + 1)) =
      [[4, 3, 2, 1], [8, 7, 6, 5], [12, 11, 10, 9], [16, 15, 14, 13]] ∧
    condition (flipClass .flipadstDct) 4 4 (fun r c => BitVec.ofNat 16 (4 * r + c + 1)) =
      [[13, 14, 15, 16], [9, 10, 11, 12], [5, 6, 7, 8], [1, 2, 3, 4]] := by
  decide

/-! ### Decode, faults, alignment, refusals (95_test_vectors.md Part 7, P3) -/

theorem test_nop : after 0x00000000 (bench 0 1 0 1 []) = some (1, 0) := by decide +kernel

theorem test_illegal_entry :
    [0x00200000, 0x00040000, 0x00011300, 0x00011310, 0x00000001, 0x00020100, 0x00030500, 0x00130000].map (fun v => after v plain) =
    [0x00200000, 0x00040000, 0x00011300, 0x00011310, 0x00000001, 0x00020100, 0x00030500, 0x00130000].map (fun v => some (0x22, v)) := by
  decide +kernel

theorem test_type_range :
    after 0x00010010 plain = some (0x12, 0x00010010) ∧ after 0x000100FF plain = some (0x12, 0x000100FF) := by
  decide +kernel

theorem test_operand_align :
    after 0x00110000 (bench 0 0x1001 64 0x2000 []) = some (0x42, 0x00110000) ∧
    after 0x00010000 (bench 0 0x1001 64 0x2000 []) = some (1, 0) ∧
    after 0x00010000 (bench 0 0x1000 64 0x2002 []) = some (0x42, 0x00010000) ∧
    after 0x00030000 (bench 0 0x1002 64 0x2000 []) = some (0x42, 0x00030000) ∧
    after 0x00120000 (bench 0 0x1001 64 0x2000 []) = some (0x42, 0x00120000) ∧
    after 0x00010010 (bench 0 0x1000 64 0x2002 []) = some (0x12, 0x00010010) ∧
    after 0x00011300 (bench 0 0x1000 64 0x2002 []) = some (0x22, 0x00011300) := by
  decide +kernel

theorem test_regions :
    refusal? (writeCmd 0x00010000 (bench 0 0x2000 4 0x2000 [])) = some .regionsOverlap ∧
    refusal? (writeCmd 0x00010000 (bench 0 0x203F 4 0x2000 [])) = some .regionsOverlap ∧
    after 0x00010000 (bench 0 0x2040 4 0x2000 []) = some (1, 0) ∧
    refusal? (writeCmd 0x00010000 (bench 0 0x1000 4 0xFFFFFFE0 [])) = some .regionWraps := by
  decide +kernel

/-- R233: after reset a transform command starts both regions at address 0 and is refused; NOP completes. -/
theorem test_first_command :
    refusal? (step (State.reset.withFetchWord 32 0x00010000)) = some .regionsOverlap ∧
    statusInfo (step (State.reset.withFetchWord 32 0)) = some (1, 0) := by
  decide +kernel

/-- P3: a faulted engine ignores CMD, stores SRC, and leaves by reset alone. -/
def p3 : State := raise .txtypeRange (startCommand 0x00010010 (bench 0 0x1000 4 0x2000 []))

theorem test_p3_ignored : next? (hostAction (.regWrite 0 0x10 4 0) p3) = some p3 := by decide +kernel

theorem test_p3_source :
    (next? (hostAction (.regWrite 0 0x04 4 0x1234) p3)).map (fun s => (s.eng.src, s.eng.status)) = some (0x1234, 0x12) := by
  decide +kernel

theorem test_p3_reset :
    (next? (hostAction (.reset 0) p3)).map (fun s => s.eng.visible) =
      some { cap := 0, src := 0, stride := 0, dst := 0, cmd := 0, status := 0, finfo := 0, run := .idle } := by
  decide +kernel

/-- P1 read back by the host: word 0 of the scenario. -/
theorem test_host_load :
    (next? (hostAction (.load 0x2000) (bench 0 0 0 0 (wordsAt 0x2000 [32])))).map State.rdata = some 0x20 := by
  decide +kernel

/-- R41's remark: two single bytes, low byte first, are one 16-bit store. -/
theorem test_host_store :
    (next? (hostAction (.store .st16 0x406E 0x0140) plain)).map State.mem = some (memWrite (memWrite [] 0x406E 1 0x40) 0x406F 1 0x01) := by
  decide +kernel

theorem test_not_admitted :
    fault? (exec .k1dFdct4 { plain with holes := [{ base := 0x100C, size := 1, width := 4 }] }) = some .notAdmitted ∧
    fault? (hostAction (.store .st32 0xFFFFFFFE 0) plain) = some .noSuchAddress := by
  decide +kernel

/-! ### Witnesses: the hypotheses of the statements can be met -/

/-- Two engines over one memory, the second of them current. -/
def pair (mem : Memory) : State :=
  { plain with
    lower := [{ Engine.afterReset 0 with src := 0x100, stride := 4, dst := 0x200 }]
    eng := { Engine.afterReset 0 with src := 0x1000, stride := 0, dst := 0x2000 }
    mem := mem }

/-- EncodeDecode. -/
theorem witness_EncodeDecode : decode 0x00010101 = .ok (.fht8x8 1 false) := by decide

/-- IllegalWords: both sides of each bound, and a word of no command. -/
theorem witness_IllegalWords :
    plain.eng.run = .idle ∧ IllegalWord 0x00011300 ∧ ¬ IllegalWord 0x00011200 ∧ IllegalWord 0x00040000 ∧ ¬ IllegalWord 0x00031800 ∧
    IllegalWord 0x00031900 ∧ IllegalWord 0x00200000 ∧ IllegalWord 0x00020001 ∧ IllegalWord 0x00100000 ∧
    (wReserved 0x00011210 = 0 ∧ wOpc 0x00011210 = 1 ∧ wSel 0x00011210 ≤ 18 ∧ 15 < wTxType 0x00011210) := by
  refine ⟨rfl, ?_, ?_, ?_, ?_, ?_, ?_, ?_, ?_, ?_⟩ <;> simp [IllegalWord, wReserved, wOpc, wSel, wTxType, wHbd, kernelOfId]

/-- IllegalWords, the last clause: bit 31 is in the word of no command. -/
theorem witness_IllegalWords_no_command : ∀ i : Instr, i.WellFormed = true → (0x80000000 : Word) ≠ encode i := by
  have h : ∀ (hbd : Bool) (tt : BitVec 8) (opc sel : Nat), opc < 16 → sel < 256 → (0x80000000 : Word) ≠ assemble hbd opc sel tt := by
    intro hbd tt opc sel ho hs he
    have hb : (assemble hbd opc sel tt).getLsbD 31 = false := by
      have h1 : (BitVec.ofNat 32 hbd.toNat).getLsbD 11 = false := by cases hbd <;> decide
      have h2 : Nat.testBit opc 15 = false := Nat.testBit_lt_two_pow (by omega)
      have h3 : Nat.testBit sel 23 = false := Nat.testBit_lt_two_pow (by omega)
      have h4 : (BitVec.ofNat 32 opc).getLsbD 15 = false := by simp only [BitVec.getLsbD_ofNat, h2, Bool.and_false]
      have h5 : (BitVec.ofNat 32 sel).getLsbD 23 = false := by simp only [BitVec.getLsbD_ofNat, h3, Bool.and_false]
      rw [BitVec.getLsbD_eq_getElem (by omega)] at h1 h4 h5
      simp [assemble, h1, h4, h5]
    rw [← he] at hb
    exact absurd hb (by decide)
  intro i _
  cases i <;> first | decide | exact h _ _ _ _ (by decide) (by decide)

/-- RowsOfTheTable: a word that matches a row. -/
theorem witness_RowsOfTheTable :
    (0x0011010F : Word) &&& rowMask (.fht8x8 0 false) = rowMatch (.fht8x8 0 false) ∧
    (0x0011010F : Word) &&& rowMask (.fht8x8 15 true) = rowMatch (.fht8x8 15 true) := by
  decide

/-- StepRunsDecoded: a queue whose first action writes CMD of the other engine. -/
theorem witness_StepRunsDecoded :
    let s := { pair [] with pending := [{ host := 1, act := .regWrite 0 0x10 4 0x00020000 }] }
    (∃ t, focus 0 { s with pending := [], host := 1 } = some t ∧ t.eng.run = .idle) ∧ decode 0x00020000 = .ok (.fwht4x4 false) ∧
    plain.eng.run = .idle ∧ decode (BitVec.ofNat 32 0x00031800) = .ok .k1dWht4 := by
  exact ⟨⟨_, rfl, rfl⟩, rfl, rfl, rfl⟩

/-- RegisterReads, RegisterWrites: an engine there is, and accesses on either side of the interface's bounds. -/
theorem witness_RegisterReads :
    focus 1 (pair []) = some (pair []) ∧ (focus 0 (pair [])).isSome = true ∧ regAccessOk 0x1C 4 = true ∧ regAccessOk 0x20 4 = false ∧
    regAccessOk 0x1E 4 = false ∧ regAccessOk 0x1C 2 = false := by
  refine ⟨rfl, by rw [focus_isSome]; decide, by decide, by decide, by decide, by decide⟩

/-- CommandRegister: a command that completes, one that faults, and a faulted engine. -/
theorem witness_CommandRegister :
    plain.eng.run = .idle ∧ (next? (writeCmd 0x00020000 plain)).isSome = true ∧ (next? (writeCmd 0x00020001 plain)).isSome = true ∧
    p3.eng.run = .faulted ∧ plain.lower.length = 0 := by
  decide +kernel

/-- OtherEngines, FaultedStays, CommandFrame: an action on one of two engines that has a next state. -/
theorem witness_OtherEngines :
    (next? (hostStep { host := 0, act := .regWrite 0 0x10 4 0x00020000 } (pair []))).isSome = true ∧
    addressed (.regWrite 0 0x10 4 0x00020000) ≠ some 1 := by
  decide +kernel

theorem witness_NoSuchEngine : plain.engines.length ≤ 1 := by decide

/-- FaultedStays: a faulted engine and an action that is not its reset. -/
theorem witness_FaultedStays :
    p3.engines[0]? = some p3.eng ∧ p3.eng.run = .faulted ∧
    (next? (hostStep { host := 0, act := .regWrite 0 0x10 4 0 } p3)).isSome = true ∧
    HostAction.regWrite 0 0x10 4 0 ≠ .reset 0 := by
  decide +kernel

theorem witness_ResetEvent : (pair []).engines[1]? = some (pair []).eng := rfl

/-- StepKeepsInv: a legal state whose step runs a command. -/
theorem witness_StepKeepsInv :
    (plain.withFetchWord 32 0x00020000).Inv ∧ (next? (step (plain.withFetchWord 32 0x00020000))).isSome = true := by
  refine ⟨⟨by decide, ?_⟩, by decide +kernel⟩
  intro e he
  have he : e = plain.eng := by simpa [State.engines, State.withFetchWord, plain, bench, State.reset] using he
  subst he
  exact ⟨.inl rfl, fun _ => ⟨.inl rfl, rfl⟩, fun h => by cases h⟩

/-- RaiseFault: a write of CMD that ends in a fault, for each cause. -/
theorem witness_RaiseFault :
    [(plain, 0x00010010), (plain, 0x00020001), (p4 1, 0x00030000), (bench 0 0x1002 0 0x2000 [], 0x00030000)].map
      (fun x => (x.1.eng.run, (next? (writeCmd x.2 x.1)).map fun s => (s.eng.run, statusCause s.eng.status))) =
    [(.idle, some (.faulted, 1)), (.idle, some (.faulted, 2)), (.idle, some (.faulted, 3)), (.idle, some (.faulted, 4))] := by
  decide +kernel

/-- DecodeAndExecute: an idle engine whose write of CMD has a next state. -/
theorem witness_DecodeAndExecute : plain.eng.run = .idle ∧ (next? (writeCmd 0x00031800 plain)).isSome = true := by decide +kernel

/-- AlignmentFault: SRC off by one for each read size, and DST off by two. -/
theorem witness_AlignmentFault :
    (bench 0 0x1001 0 0x2000 []).eng.src.toNat % (MemCommand.block .s4x4 .dctDct true).readSize ≠ 0 ∧
    (bench 0 0x1002 0 0x2000 []).eng.src.toNat % (MemCommand.vector .wht4).readSize ≠ 0 ∧
    (bench 0 0x1001 0 0x2000 []).eng.src.toNat % (MemCommand.wht true).readSize ≠ 0 ∧
    (bench 0 0x1001 0 0x2000 []).eng.src.toNat % (MemCommand.wht false).readSize = 0 ∧
    (bench 0 0x1000 0 0x2002 []).eng.dst.toNat % 4 ≠ 0 := by
  decide

theorem witness_TypeFault : 15 < (16 : BitVec 8).toNat ∧ ¬ 15 < (15 : BitVec 8).toNat := by decide

/-- BudgetFault: P4's vector, with the checks on and off. -/
theorem witness_BudgetFault :
    [0, 1].map (fun cap => (misaligned (MemCommand.transfer (p4 cap).eng (.vector .fdct4)) (p4 cap).eng,
      regionRefusal (MemCommand.transfer (p4 cap).eng (.vector .fdct4)) (p4 cap),
      readsAdmitted (MemCommand.transfer (p4 cap).eng (.vector .fdct4)) (p4 cap),
      writesAdmitted (MemCommand.transfer (p4 cap).eng (.vector .fdct4)) (p4 cap),
      (MemCommand.work (p4 cap).mem (p4 cap).eng (.vector .fdct4)).computed.viol, debugChecks (p4 cap).eng)) =
    [(false, none, true, true, true, false), (false, none, true, true, true, true)] := by
  decide +kernel

/-- RegionsRefused: a shared last byte, the first byte after the output, an output and an input that wrap. -/
theorem witness_RegionsRefused :
    (MemCommand.block .s4x4 .dctDct false).InputByte (bench 0 0x203F 4 0x2000 []).eng 0x203F ∧
    (MemCommand.block .s4x4 .dctDct false).OutputByte (bench 0 0x203F 4 0x2000 []).eng 0x203F ∧
    (MemCommand.block .s4x4 .dctDct false).Wraps (bench 0 0x1000 4 0xFFFFFFE0 []).eng ∧
    (MemCommand.vector .wht4).Wraps (bench 0 0xFFFFFFF4 0 0x2000 []).eng ∧
    ¬ (MemCommand.vector .wht4).Wraps (bench 0 0xFFFFFFF0 0 0x2000 []).eng ∧
    (bench 0 0x203F 4 0x2000 []).eng.src.toNat % (MemCommand.block .s4x4 .dctDct false).readSize = 0 := by
  refine ⟨⟨0, 0, 0, by decide, by decide, by decide, by decide⟩, ⟨15, 3, by decide, by decide, by decide⟩, .inl (by decide),
    .inr ?_, ?_, by decide⟩
  · show 2 ^ 32 < _
    decide
  · rintro (h | h)
    · exact absurd h (by decide)
    · exact absurd h (by decide)

/-- ConcurrentRefused: good regions, and an earlier command of another host that wrote the last input byte. -/
def concurrent : State :=
  { plain with window := [{ host := 1, reads := [{ start := 0x5000, len := 4 }], writes := { start := 0x100F, len := 4 }, after := [2], tokens := [] }] }

theorem witness_ConcurrentRefused :
    concurrent.eng.src.toNat % (MemCommand.vector .wht4).readSize = 0 ∧ concurrent.eng.dst.toNat % 4 = 0 ∧
    ¬ (MemCommand.vector .wht4).Wraps concurrent.eng ∧
    (¬ ∃ a, (MemCommand.vector .wht4).InputByte concurrent.eng a ∧ (MemCommand.vector .wht4).OutputByte concurrent.eng a) ∧
    refusal? (exec .k1dWht4 concurrent) = some .concurrentOverlap ∧
    (next? (exec .k1dWht4 { concurrent with host := 1 })).isSome = true ∧
    (next? (exec .k1dWht4 { concurrent with host := 2 })).isSome = true := by
  refine ⟨by decide, by decide, ?_, ?_, by decide +kernel, by decide +kernel, by decide +kernel⟩
  · rintro (h | h)
    · exact absurd h (by decide)
    · exact absurd h (by decide)
  · rintro ⟨a, ⟨i, j, hi, hj, ha⟩, ⟨k, l, hk, hl, hb⟩⟩
    have hi : i < 4 := hi
    have hk : k < 4 := hk
    have h1 : wordAddr concurrent.eng i = (0x1000 + 4 * i) % 4294967296 := rfl
    have h2 : outAddr concurrent.eng k = (0x2000 + 4 * k) % 4294967296 := rfl
    omega

/-- NotAdmittedStuck: the last input word not admitted, and the last output word not admitted. -/
theorem witness_NotAdmittedStuck :
    [({ base := 0x100C, size := 1, width := 4 } : Hole), { base := 0x200C, size := 1, width := 4 }].map (fun h =>
      let s := { plain with holes := [h] }
      (misaligned (MemCommand.transfer s.eng (.vector .wht4)) s.eng, regionRefusal (MemCommand.transfer s.eng (.vector .wht4)) s,
        readsAdmitted (MemCommand.transfer s.eng (.vector .wht4)) s, writesAdmitted (MemCommand.transfer s.eng (.vector .wht4)) s,
        (MemCommand.work s.mem s.eng (.vector .wht4)).computed.viol)) =
    [(false, none, false, true, false), (false, none, true, false, false)] := by
  decide +kernel

/-- NopCommand: an idle engine and a word with OPC = 0 that is not 0. -/
theorem witness_NopCommand : plain.eng.run = .idle ∧ wOpc 0x00000100 = 0 ∧ (0x00000100 : Word) ≠ 0 := by decide

/-- FhtCompletes, BudgetHolds: operands ready at the corner shapes, input ending where the output begins. -/
theorem witness_FhtCompletes :
    Ready (MemCommand.transfer (bench 1 0x1FF0 4 0x2000 []).eng (.block .s4x4 .dctDct false)) (bench 1 0x1FF0 4 0x2000 []) ∧
    Ready (MemCommand.transfer (bench 1 0x0000 64 0x2000 []).eng (.block .s64x64 .idtx true)) (bench 1 0x0000 64 0x2000 []) ∧
    ((shapePasses .s4x4 .dctDct (shapeBlock .s4x4 .dctDct false [] (bench 1 0x1FF0 4 0x2000 []).eng)).run false).2 = false := by
  refine ⟨⟨?_, ?_, ?_, ?_⟩, ⟨?_, ?_, ?_, ?_⟩, ?_⟩ <;> decide +kernel

/-- A block of equal samples, ready for `FWHT4X4` and for a 4 by 4 transform. -/
def flat (cap : Word) : State := bench cap 0x1000 4 0x2000 (bytesAt 0x1000 (List.replicate 16 100))

/-- FwhtCompletes, FwhtLossless. -/
theorem witness_FwhtCompletes :
    Ready (MemCommand.transfer (flat 1).eng (.wht false)) (flat 1) ∧ (next? (exec (.fwht4x4 false) (flat 1))).isSome = true ∧
    (∀ r < 4, ∀ c < 4, sample (flat 1).mem (flat 1).eng false r c = 100) := by
  refine ⟨⟨?_, ?_, ?_, ?_⟩, ?_, ?_⟩ <;> decide +kernel

/-- K1dCompletes, VectorScratchFrame. -/
theorem witness_K1dCompletes :
    Ready (MemCommand.transfer (p4 0).eng (.vector .fdct4)) (p4 0) ∧ debugChecks (p4 0).eng = false ∧
    Ready (MemCommand.transfer plain.eng (.vector .fhalfright64)) plain ∧ (next? (exec .k1dFdct4 (p4 0))).isSome = true := by
  refine ⟨⟨?_, ?_, ?_, ?_⟩, ?_, ⟨?_, ?_, ?_, ?_⟩, ?_⟩ <;> decide +kernel

/-- CommandFrame: completion and a fault from an idle engine, and a byte outside the output. -/
theorem witness_CommandFrame :
    (flat 1).eng.run = .idle ∧ (next? (exec (MemCommand.wht false).instr (flat 1))).isSome = true ∧
    ((next? (exec (MemCommand.vector .fdct4).instr (p4 1))).map fun s => s.eng.run) = some .faulted ∧
    ¬ (MemCommand.wht false).OutputByte (flat 1).eng 0x2040 := by
  refine ⟨rfl, by decide +kernel, by decide +kernel, ?_⟩
  rintro ⟨k, l, hk, hl, h⟩
  have hk : k < 16 := hk
  have h2 : outAddr (flat 1).eng k = (0x2000 + 4 * k) % 4294967296 := rfl
  omega

/-- CommandFrame: NOP and an `FHT*` of a type above 15 are no command with operands, and both have a next state. -/
theorem witness_CommandFrame_no_operands :
    (∀ c : MemCommand, Instr.nop ≠ c.instr) ∧ (∀ c : MemCommand, Instr.fht8x8 16 false ≠ c.instr) ∧
    (next? (exec .nop (flat 1))).isSome = true ∧ (next? (exec (.fht8x8 16 false) (flat 1))).isSome = true := by
  refine ⟨?_, ?_, by decide, by decide⟩
  · rintro (⟨sh, t, hbd⟩ | hbd | k)
    · cases sh <;> simp [MemCommand.instr, fhtInstr]
    · simp [MemCommand.instr]
    · cases k <;> simp [MemCommand.instr, k1dInstr]
  · rintro (⟨sh, t, hbd⟩ | hbd | k)
    · cases sh <;> cases t <;> simp [MemCommand.instr, fhtInstr, txCode]
    · simp [MemCommand.instr]
    · cases k <;> simp [MemCommand.instr, k1dInstr]

/-- VectorScratchFrame, BlockScratchFrame: a lane and a position outside the shape. -/
theorem witness_BlockScratchFrame :
    (next? (exec (fhtInstr .s4x4 0 false) (flat 0))).isSome = true ∧ (next? (exec (.fwht4x4 false) (flat 0))).isSome = true ∧
    shapeHeight .s4x4 ≤ 4 ∧ kernelLen .fdct4 ≤ 4 := by
  decide +kernel

/-- Stateless: two states that differ in scratch, in memory beside the input and in their other engines. -/
theorem witness_Stateless :
    let s1 := flat 1
    let s2 := { pair (memWrite (flat 1).mem 0x3000 4 7) with eng := { (flat 1).eng with vin := Vector.replicate 64 5, viol := true } }
    EngineOk s1.eng ∧ EngineOk s2.eng ∧ s1.eng.run = .idle ∧ s2.eng.run = .idle ∧ s1.eng.cap = s2.eng.cap ∧ s1.eng.src = s2.eng.src ∧
    s1.eng.stride = s2.eng.stride ∧ s1.eng.dst = s2.eng.dst ∧
    (∀ a, a < 0x3000 → readByte s1.mem a = readByte s2.mem a) ∧
    regionRefusal (MemCommand.transfer s2.eng (.wht false)) s2 = none ∧ readsAdmitted (MemCommand.transfer s2.eng (.wht false)) s2 = true ∧
    writesAdmitted (MemCommand.transfer s2.eng (.wht false)) s2 = true ∧ (next? (writeCmd 0x00020000 s1)).isSome = true := by
  refine ⟨⟨.inr rfl, fun _ => ⟨.inl rfl, rfl⟩, fun h => by cases h⟩, ⟨.inr rfl, fun _ => ⟨.inl rfl, rfl⟩, fun h => by cases h⟩, rfl, rfl,
    rfl, rfl, rfl, rfl, ?_, by decide +kernel, by decide +kernel, by decide +kernel, by decide +kernel⟩
  intro a ha
  show readByte (flat 1).mem a = readByte (memWrite (flat 1).mem 0x3000 4 7) a
  rw [memWrite, readByte_writeBytes, if_neg (by omega)]

/-- Interleaving: P5's shape of run, two hosts on two engines. -/
theorem witness_Interleaving :
    let a : HostOp := { host := 0, act := .regWrite 0 0x10 4 0x00020000 }
    let b : HostOp := { host := 1, act := .regWrite 1 0x10 4 0x00031800 }
    a.host ≠ b.host ∧ (pair []).mem.wf = true ∧
    ((next? (hostStep a (pair []))).bind fun s => next? (hostStep b s)).isSome = true := by
  decide +kernel

/-- HostSynchronisation, both sides of R55: host 0's command writes at 0x2000; host 1 may transform those words only after it has waited
for host 0's signal, and host 2, which host 1 signals in turn, after that; a wait before the signal, or for another one, orders nothing. -/
theorem witness_HostSynchronisation :
    let run := fun (ops : List HostOp) => ops.foldl (fun o op => o.bind fun s => next? (hostStep op s)) (some (pair []))
    let first : HostOp := { host := 0, act := .regWrite 1 0x10 4 0x00031800 }
    let source := fun h : Nat => ({ host := h, act := .regWrite 0 0x04 4 0x2000 } : HostOp)
    let second := fun h : Nat => ({ host := h, act := .regWrite 0 0x10 4 0x00031800 } : HostOp)
    (run [first, source 1, second 1]).isSome = false ∧
    (run [first, source 0, second 0]).isSome = true ∧
    (run [first, ⟨0, .signal 7⟩, source 1, second 1]).isSome = false ∧
    (run [first, ⟨0, .signal 7⟩, ⟨1, .wait 7⟩, source 1, second 1]).isSome = true ∧
    (run [first, ⟨0, .signal 7⟩, ⟨1, .wait 7⟩, source 2, second 2]).isSome = false ∧
    (run [first, ⟨0, .signal 7⟩, ⟨1, .wait 7⟩, ⟨1, .signal 8⟩, ⟨2, .wait 8⟩, source 2, second 2]).isSome = true ∧
    (run [⟨0, .signal 7⟩, first, ⟨1, .wait 7⟩, source 1, second 1]).isSome = false ∧
    (run [first, ⟨0, .signal 7⟩, ⟨1, .wait 8⟩, source 1, second 1]).isSome = false ∧
    (run [first, ⟨2, .sync⟩, source 1, second 1]).isSome = true := by
  decide +kernel

/-- HostAccesses: the last word of memory, and one byte further. -/
theorem witness_HostAccesses :
    (0xFFFFFFFC : Word).toNat + storeBytes .st32 ≤ 2 ^ 32 ∧ admits plain.holes 0xFFFFFFFC 4 = true ∧
    2 ^ 32 < (0xFFFFFFFD : Word).toNat + storeBytes .st32 := by
  decide

/-- RoundShift: ordinary operands, and the top of the working range. -/
theorem witness_RoundShift :
    1 ≤ 14 ∧ -(2 ^ 63) ≤ (-8193 : Int) ∧ (-8193 : Int) + 2 ^ 13 < 2 ^ 63 ∧ ¬ ((2 ^ 63 - 1 : Int) + 2 ^ 13 < 2 ^ 63) := by
  decide

/-- KernelContract, HalfRight: vectors of the right length. -/
theorem witness_KernelContract :
    (List.replicate 64 (1 : Lane)).length = kernelLen .fdct64 ∧ (List.replicate 32 (1 : Lane)).length = 32 := by
  decide

/-- DctConstant: the largest constant of FDCT64, and the first one too large. -/
theorem witness_DctConstant :
    |(kernelLen .fdct64 : Int) * (0x00FFFFFF : Lane).toInt| < 2 ^ 30 ∧ ¬ |(kernelLen .fdct64 : Int) * (0x01000000 : Lane).toInt| < 2 ^ 30 := by
  decide

/-- Wht4Invertible: a vector in budget. -/
theorem witness_Wht4Invertible :
    ((runKernel .wht4 [1, 2, 3, 4]).run false).2 = false ∧ |(0x0FFFFFFF : Lane).toInt| < 2 ^ 28 := by
  decide +kernel

theorem witness_DispatchWords : (15 : BitVec 8).toNat ≤ 15 ∧ 15 < (16 : BitVec 8).toNat := by decide

theorem witness_Conditioner : 3 < 4 ∧ 7 < 8 := by decide

/-- A block and its mirror image from left to right, in 8-bit and in 16-bit samples. -/
def mirrored : State × State :=
  (bench 0 0x1000 4 0x2000 (bytesAt 0x1000 (bytes8 [1, 2, 3, 4, 5, 6, 7, 8, 9, 10, 11, 12, 13, 14, 15, -16])),
   bench 0 0x1000 4 0x2000 (bytesAt 0x1000 (bytes16 [4, 3, 2, 1, 8, 7, 6, 5, 12, 11, 10, 9, -16, 15, 14, 13])))

/-- FlipEquivalence. -/
theorem witness_FlipEquivalence :
    (∀ r < 4, ∀ c < 4, sample mirrored.2.mem mirrored.2.eng true r c = sample mirrored.1.mem mirrored.1.eng false r (4 - 1 - c)) ∧
    Ready (MemCommand.transfer mirrored.1.eng (.block .s4x4 .dctFlipadst false)) mirrored.1 ∧
    Ready (MemCommand.transfer mirrored.2.eng (.block .s4x4 .dctAdst true)) mirrored.2 ∧
    verticalKind .dctFlipadst ≠ .flipadst ∧ horizontalKind .dctFlipadst = .flipadst ∧
    (next? (exec (fhtInstr .s4x4 (txCode .dctFlipadst) false) mirrored.1)).isSome = true ∧
    (next? (exec (fhtInstr .s4x4 (txCode .dctAdst) true) mirrored.2)).isSome = true := by
  refine ⟨?_, ⟨?_, ?_, ?_, ?_⟩, ⟨?_, ?_, ?_, ?_⟩, ?_, ?_, ?_, ?_⟩ <;> decide +kernel

theorem witness_Transposition : shapeWidth .s4x8 ≠ shapeHeight .s4x8 := by decide

/-- ZeroBlock and ConstantBlock: a block of zeros and a block of equal samples. -/
theorem witness_ConstantBlock :
    (∀ r < 4, ∀ c < 4, sample [] (flat 0).eng false r c = 0) ∧ (∀ r < 4, ∀ c < 4, sample (flat 0).mem (flat 0).eng false r c = 100) := by
  decide +kernel

/-- BudgetHolds, ZeroAndPack: grids of the sides of a shape. -/
theorem witness_ZeroAndPack :
    (List.replicate (shapeHeight .s16x64) (List.replicate (shapeWidth .s16x64) (1 : Sample))).length = shapeHeight .s16x64 ∧
    (∀ row ∈ List.replicate (shapeHeight .s16x64) (List.replicate (shapeWidth .s16x64) (1 : Sample)), row.length = shapeWidth .s16x64) := by
  refine ⟨by simp, fun row h => ?_⟩
  rw [(List.mem_replicate.1 h).2]
  simp

end Sys2Proof.Tests
end

section
/-! PROOFS, the shapes of what a command computes: how many lanes a kernel run reads and writes, how many rows and columns the
passes leave, and how many words a command puts out (10_state.md R14, R26 to R28; 46_transform_2d.md R147, R191). -/

namespace Sys2Proof.Machine

/-! ### What holds of the answer of a calculation, whatever the budget bit -/

/-- The answer of `c` meets `P` from every value of the budget bit. -/
def Ensures {α : Type} (c : Calc α) (P : α → Prop) : Prop := ∀ b, P (c.run b).1

theorem ensures_pure {α : Type} {P : α → Prop} {v : α} (h : P v) : Ensures (pure v : Calc α) P := fun _ => h

theorem ensures_true {α : Type} (c : Calc α) : Ensures c fun _ => True := fun _ => trivial

theorem ensures_bind {α β : Type} {c : Calc α} {f : α → Calc β} {P : α → Prop} {Q : β → Prop} (hc : Ensures c P)
    (hf : ∀ a, P a → Ensures (f a) Q) : Ensures (c >>= f) Q :=
  fun b => hf _ (hc b) (c.run b).2

/-- A calculation that ends with one whose answer meets `Q` whatever came before. -/
theorem ensures_bind_last {α β : Type} {c : Calc α} {f : α → Calc β} {Q : β → Prop} (hf : ∀ a, Ensures (f a) Q) :
    Ensures (c >>= f) Q :=
  ensures_bind (ensures_true c) fun a _ => hf a

theorem ensures_mapM {α β : Type} {f : α → Calc β} {P : β → Prop} (xs : List α) (h : ∀ x ∈ xs, Ensures (f x) P) :
    Ensures (xs.mapM f) fun ys => ys.length = xs.length ∧ ∀ y ∈ ys, P y := by
  induction xs with
  | nil => exact ensures_pure ⟨rfl, by simp⟩
  | cons x xs ih =>
    rw [List.mapM_cons]
    refine ensures_bind (h x (by simp)) fun y hy => ?_
    refine ensures_bind (ih fun z hz => h z (by simp [hz])) fun ys ⟨hlen, hys⟩ => ensures_pure ⟨by simp [hlen], ?_⟩
    intro z hz
    rcases List.mem_cons.1 hz with rfl | hz
    · exact hy
    · exact hys z hz

theorem ensures_mapM_length {α β : Type} (f : α → Calc β) (xs : List α) :
    Ensures (xs.mapM f) fun ys => ys.length = xs.length :=
  fun b => (ensures_mapM xs (fun x _ => ensures_true (f x)) b).1

/-! ### Kernel runs -/

/-- A kernel run that read and wrote `n` lanes of VIN and VOUT and no more of any stage vector. -/
structure KernelRun.Fits (n : Nat) (r : KernelRun) : Prop where
  vin : r.vin.length = n
  vout : r.vout.length = n
  stages : ∀ b ∈ r.stages, b.length ≤ n

theorem runStages_ensures {n : Nat} (net : List (List LaneOp)) (v : List Lane) (hnet : ∀ stage ∈ net, stage.length = n)
    (hv : v.length = n) : Ensures (runStages net v) fun bs => (∀ b ∈ bs, b.length = n) ∧ (lastStage bs).length = n := by
  induction net generalizing v with
  | nil => exact ensures_pure ⟨by simp [hv], hv⟩
  | cons stage net ih =>
    refine ensures_bind (ensures_mapM_length (runLaneOp v) stage) fun v' hv' => ?_
    refine ensures_bind (ih v' (fun st h => hnet st (by simp [h])) (hv'.trans (hnet stage (by simp)))) fun bs ⟨hbs, hlast⟩ =>
      ensures_pure ⟨?_, ?_⟩
    · intro b hb
      rcases List.mem_cons.1 hb with rfl | hb
      · exact hv
      · exact hbs b hb
    · cases bs with
      | nil => exact hv
      | cons b bs => exact hlast

theorem runDct_ensures {n : Nat} (net : List (List LaneOp)) (v : List Lane) (hnet : ∀ stage ∈ net, stage.length = n)
    (hv : v.length = n) : Ensures (runDct net v) (KernelRun.Fits n) :=
  ensures_bind (runStages_ensures net v hnet hv) fun _ ⟨hbs, hlast⟩ => ensures_pure ⟨hv, hlast, fun b hb => (hbs b hb).le⟩

theorem runPlain_ensures {n : Nat} (f : List Lane → Calc (List Lane)) (v : List Lane) (hv : v.length = n)
    (hf : Ensures (f v) fun o => o.length = n) : Ensures (runPlain f v) (KernelRun.Fits n) :=
  ensures_bind hf fun _ ho => ensures_pure ⟨hv, ho, by simp⟩

theorem runHalfRight_ensures (half : Nat) (first : Lane → Calc Lane) (net : List (List LaneOp)) (v : List Lane)
    (hnet : ∀ stage ∈ net, stage.length = half) (hv : v.length = 2 * half) :
    Ensures (runHalfRight half first net v) (KernelRun.Fits (2 * half)) := by
  refine ensures_bind (ensures_mapM_length first _) fun high hhigh => ?_
  refine ensures_bind (ensures_mapM_length timesSqrt2 _) fun h hh => ?_
  rw [List.length_take] at hhigh
  rw [List.length_drop] at hh
  refine ensures_bind (runStages_ensures net h hnet (by omega)) fun bs ⟨hbs, hlast⟩ => ensures_pure ⟨hv, ?_, ?_⟩
  · rw [List.length_append]; omega
  · intro b hb
    have := hbs b hb
    omega

/-! A kernel written out lane by lane is a chain of narrowings, as many as the iterations below, that ends in the list of its lanes. -/

theorem fadst4_ensures (v : List Lane) : Ensures (fadst4 v) fun o => o.length = 4 := by
  unfold fadst4
  split
  · exact ensures_pure rfl
  · iterate 4 refine ensures_bind_last fun _ => ?_
    exact ensures_pure rfl

theorem fadst8_ensures (v : List Lane) : Ensures (fadst8 v) fun o => o.length = 8 := by
  unfold fadst8
  dsimp only [turn, turnBack]
  iterate 24 refine ensures_bind_last fun _ => ?_
  exact ensures_pure rfl

theorem fadst16_ensures (v : List Lane) : Ensures (fadst16 v) fun o => o.length = 16 := by
  unfold fadst16
  dsimp only [turn, turnBack]
  iterate 60 refine ensures_bind_last fun _ => ?_
  exact ensures_pure rfl

theorem wht4_ensures (v : List Lane) : Ensures (wht4 v) fun o => o.length = 4 := by
  unfold wht4
  dsimp only
  iterate 7 refine ensures_bind_last fun _ => ?_
  exact ensures_pure rfl

/-- A kernel on a vector of its length reads and writes as many lanes (40_primitives.md R100). -/
theorem runKernel_ensures (k : Kernel) (v : List Lane) (hv : v.length = kernelLen k) :
    Ensures (runKernel k v) (KernelRun.Fits (kernelLen k)) := by
  have scaled (f : Lane → Calc Lane) : Ensures (v.mapM f) fun o => o.length = kernelLen k :=
    fun b => (ensures_mapM_length f v b).trans hv
  cases k with
  | fdct4 => exact runDct_ensures _ v (by decide) hv
  | fdct8 => exact runDct_ensures _ v (by decide) hv
  | fdct16 => exact runDct_ensures _ v (by decide) hv
  | fdct32 => exact runDct_ensures _ v (by decide) hv
  | fdct64 => exact runDct_ensures _ v (by decide) hv
  | fadst4 => exact runPlain_ensures _ v hv (fadst4_ensures v)
  | fadst8 => exact runPlain_ensures _ v hv (fadst8_ensures v)
  | fadst16 => exact runPlain_ensures _ v hv (fadst16_ensures v)
  | fhalfright32 => exact runHalfRight_ensures 16 _ _ v (by decide) hv
  | fhalfright64 => exact runHalfRight_ensures 32 _ _ v (by decide) hv
  | fidtx4 => exact runPlain_ensures _ v hv (scaled _)
  | fidtx8 => exact runPlain_ensures _ v hv (scaled _)
  | fidtx16 => exact runPlain_ensures _ v hv (scaled _)
  | fidtx32 => exact runPlain_ensures _ v hv (scaled _)
  | fidtx64 => exact runPlain_ensures _ v hv (scaled _)
  | wht4 => exact runPlain_ensures _ v hv (wht4_ensures v)

/-! ### Grids and passes -/

/-- A grid of `h` rows of `w` elements each. -/
def IsGrid {α : Type} (h w : Nat) (g : List (List α)) : Prop := g.length = h ∧ ∀ row ∈ g, row.length = w

theorem isGrid_map_range {α : Type} (h w : Nat) (f : Nat → Nat → α) :
    IsGrid h w ((List.range h).map fun r => (List.range w).map (f r)) := by
  simp [IsGrid]

theorem isGrid_columns {h w : Nat} (n : Nat) {g : List (List Lane)} (hg : IsGrid h w g) : IsGrid n h (columns n g) := by
  simp [IsGrid, columns, hg.1]

theorem isGrid_zeroHigh {h w : Nat} {g : List (List Lane)} (hg : IsGrid h w g) : IsGrid h w (zeroHigh g) := by
  refine ⟨by simp [zeroHigh, hg.1], fun row hrow => ?_⟩
  obtain ⟨x, hx, rfl⟩ := List.mem_map.1 hrow
  have hmem : x.1 ∈ g := List.fst_mem_of_mem_zipIdx hx
  simp [hg.2 _ hmem]

theorem passVector_ensures {w : Nat} {k : Kernel} (pre post : Lane → Calc Lane) {v : List Lane} (hk : kernelLen k = w)
    (hv : v.length = w) : Ensures (passVector k pre post v) fun x => x.1.Fits w ∧ x.2.length = w := by
  subst hk
  refine ensures_bind (ensures_mapM_length pre v) fun vin hvin => ?_
  refine ensures_bind (runKernel_ensures k vin (hvin.trans hv)) fun run hrun => ?_
  exact ensures_bind (ensures_mapM_length post run.vout) fun out hout => ensures_pure ⟨hrun, hout.trans hrun.vout⟩

/-- One pass over `h` vectors of the kernel's length `w`: as many runs, and as many outputs of that length. -/
theorem pass_ensures {h w : Nat} {k : Kernel} (pre post : Lane → Calc Lane) {vs : List (List Lane)} (hk : kernelLen k = w)
    (hvs : IsGrid h w vs) :
    Ensures (pass k pre post vs) fun p => (∀ r ∈ p.map Prod.fst, r.Fits w) ∧ IsGrid h w (p.map Prod.snd) := by
  intro b
  obtain ⟨hlen, hall⟩ := ensures_mapM vs (fun v hv => passVector_ensures pre post hk (hvs.2 v hv)) b
  refine ⟨fun r hr => ?_, by rw [List.length_map]; exact hlen.trans hvs.1, fun row hrow => ?_⟩
  · obtain ⟨x, hx, rfl⟩ := List.mem_map.1 hr
    exact (hall x hx).1
  · obtain ⟨x, hx, rfl⟩ := List.mem_map.1 hrow
    exact (hall x hx).2

/-- The passes over a block of `h` rows and `w` columns: every run is within one of the sides, MID and RES have the block's sides. -/
structure Passes.Fits (h w : Nat) (p : Passes) : Prop where
  runs : ∀ r ∈ p.runs, ∃ n, n ≤ max w h ∧ r.Fits n
  mid : IsGrid h w p.mid
  res : IsGrid h w p.res

/-- The runs of a row pass and of a column pass, put together in any order. -/
theorem runs_append_fit {n m k : Nat} {rs qs : List KernelRun} (hn : n ≤ k) (hm : m ≤ k) (hr : ∀ r ∈ rs, r.Fits n)
    (hq : ∀ r ∈ qs, r.Fits m) : ∀ r ∈ rs ++ qs, ∃ l, l ≤ k ∧ r.Fits l := by
  intro r h
  rcases List.mem_append.1 h with h | h
  · exact ⟨n, hn, hr r h⟩
  · exact ⟨m, hm, hq r h⟩

theorem passes_ensures {h w : Nat} (rec : DispatchRecord) {x : List (List Lane)} (hrow : kernelLen rec.rowk = w)
    (hcol : kernelLen rec.colk = h) (hx : IsGrid h w x) : Ensures (passes w h rec x) (Passes.Fits h w) := by
  unfold passes
  split
  · refine ensures_bind (pass_ensures _ _ hrow hx) fun p ⟨hp, hmid⟩ => ?_
    refine ensures_bind (pass_ensures _ _ hcol (isGrid_columns w hmid)) fun q ⟨hq, hres⟩ => ensures_pure ?_
    exact ⟨runs_append_fit (le_max_left w h) (le_max_right w h) hp hq, hmid, isGrid_columns h hres⟩
  · refine ensures_bind (pass_ensures _ _ hcol (isGrid_columns w hx)) fun p ⟨hp, hmid⟩ => ?_
    have hmid := isGrid_columns h hmid
    refine ensures_bind (pass_ensures _ _ hrow hmid) fun q ⟨hq, hres⟩ => ensures_pure ?_
    exact ⟨runs_append_fit (le_max_right w h) (le_max_left w h) hp hq, hmid, hres⟩

/-- The kernels of every cell have the lengths of the shape's sides (46_transform_2d.md R149). -/
theorem kernelLen_dispatch (sh : Shape) (t : TxType) :
    kernelLen (dispatch sh t).rowk = shapeWidth sh ∧ kernelLen (dispatch sh t).colk = shapeHeight sh := by
  have side (k : Kind) (n : Nat) (hn : n ∈ [4, 8, 16, 32, 64]) : kernelLen ((kernelFor k n).getD .wht4) = n := by
    revert n
    cases k <;> decide
  exact ⟨side _ _ (by cases sh <;> decide), side _ _ (by cases sh <;> decide)⟩

theorem shapePasses_fits (sh : Shape) (t : TxType) {x : List (List Sample)} (hx : IsGrid (shapeHeight sh) (shapeWidth sh) x)
    (b : Bool) : ((shapePasses sh t x).run b).1.Fits (shapeHeight sh) (shapeWidth sh) := by
  obtain ⟨hrow, hcol⟩ := kernelLen_dispatch sh t
  refine passes_ensures (dispatch sh t) hrow hcol ⟨by rw [List.length_map, hx.1], fun row hr => ?_⟩ b
  obtain ⟨r, hmem, rfl⟩ := List.mem_map.1 hr
  rw [List.length_map, hx.2 r hmem]

theorem whtPasses_fits {x : List (List Lane)} (hx : IsGrid 4 4 x) (b : Bool) : ((whtPasses x).run b).1.Fits 4 4 := by
  have h : Ensures (whtPasses x) (Passes.Fits 4 4) := by
    refine ensures_bind (pass_ensures _ _ rfl hx) fun p ⟨hp, hmid⟩ => ?_
    refine ensures_bind (pass_ensures _ _ rfl (isGrid_columns 4 hmid)) fun q ⟨hq, hres⟩ => ensures_pure ?_
    exact ⟨runs_append_fit (le_max_left 4 4) (le_max_right 4 4) hp hq, hmid, isGrid_columns 4 hres⟩
  exact h b

theorem isGrid_shapeBlock (sh : Shape) (t : TxType) (hbd : Bool) (m : Memory) (e : Engine) :
    IsGrid (shapeHeight sh) (shapeWidth sh) (shapeBlock sh t hbd m e) :=
  isGrid_map_range _ _ _

theorem isGrid_whtBlock (hbd : Bool) (m : Memory) (e : Engine) : IsGrid 4 4 (whtBlock hbd m e) :=
  isGrid_map_range 4 4 _

/-! ### The number of output words -/

/-- Lists of one length, put together. -/
theorem length_flatten_of_forall {α : Type} {n : Nat} {l : List (List α)} (h : ∀ x ∈ l, x.length = n) :
    l.flatten.length = l.length * n := by
  rw [List.length_flatten, List.map_congr_left h]
  simp

theorem packWords_length {h w : Nat} {g : List (List Lane)} (hg : IsGrid h w g) :
    (packWords w h g).length = kept w * kept h := by
  rw [packWords, List.flatMap_def, length_flatten_of_forall (n := kept w)]
  · rw [List.length_map, List.length_take, hg.1, min_eq_left (show kept h ≤ h from min_le_left _ _), Nat.mul_comm]
  · intro x hx
    obtain ⟨row, hrow, rfl⟩ := List.mem_map.1 hx
    rw [List.length_take, hg.2 row (List.mem_of_mem_take hrow), min_eq_left (show kept w ≤ w from min_le_left _ _)]

theorem shapeNout_eq_noutTable (sh : Shape) : shapeNout sh = noutTable sh := by
  cases sh <;> rfl

theorem blockWork_words (sh : Shape) (t : TxType) (x : List (List Sample)) (e : Engine) :
    (blockWork sh t x e).words =
      packWords (shapeWidth sh) (shapeHeight sh) (zeroHigh ((shapePasses sh t x).run false).1.res) := rfl

theorem whtWork_words (x : List (List Lane)) (e : Engine) :
    (whtWork x e).words = ((whtPasses x).run false).1.res.flatten := by
  simp only [whtWork]

theorem vectorWork_words (k : Kernel) (v : List Lane) (e : Engine) :
    (vectorWork k v e).words = ((runKernel k v).run false).1.vout := rfl

/-- Every command computes as many words as its output region holds (47_repack_and_misc_commands.md R191 to R193). -/
theorem work_words_length (i : MemCommand) (m : Memory) (e : Engine) : (i.work m e).words.length = i.nout := by
  cases i with
  | block sh t hbd =>
    have fits := shapePasses_fits sh t (isGrid_shapeBlock sh t hbd m e) false
    rw [MemCommand.work, blockWork_words, packWords_length (isGrid_zeroHigh fits.res)]
    exact shapeNout_eq_noutTable sh
  | wht hbd =>
    have fits := whtPasses_fits (isGrid_whtBlock hbd m e) false
    rw [MemCommand.work, whtWork_words, length_flatten_of_forall fits.res.2, fits.res.1]
    rfl
  | vector k =>
    have hlen : (inputVector (kernelLen k) m e).length = kernelLen k := by simp [inputVector]
    have fits := runKernel_ensures k _ hlen false
    rw [MemCommand.work, vectorWork_words, fits.vout]
    rfl

end Sys2Proof.Machine
end

section
/-! PROOFS, the control registers and the step: which engine an action reaches, what a register access answers, the state after
power-up, and what a command that answers a next state has done (10_state.md R17 to R25, R34, R35; 60_exceptions.md R204, R205). -/

namespace Sys2Proof.Machine

/-! ### Actions on an engine -/

theorem onEngine_of_focus {e : Nat} {s t : State} (act : State → Host.Outcome State Fault Refusal) (h : focus e s = some t) :
    onEngine e act s = act t := by
  rw [onEngine, h]

theorem onEngine_next {e : Nat} {act : State → Host.Outcome State Fault Refusal} {s s' : State} (h : onEngine e act s = .next s') :
    ∃ t, focus e s = some t ∧ act t = .next s' := by
  cases hf : focus e s with
  | none => rw [onEngine, hf] at h; cases h
  | some t => exact ⟨t, rfl, onEngine_of_focus act hf ▸ h⟩

theorem hostAction_regRead {e off : Nat} {s t : State} (h : focus e s = some t) (hok : regAccessOk off 4 = true) :
    hostAction (.regRead e off 4) s = .next { t with rdata := regValue t.eng off } := by
  rw [hostAction, onEngine_of_focus _ h, regRead, if_pos hok]

theorem hostAction_regWrite {e off : Nat} {v : Word} {s t : State} (h : focus e s = some t) (hok : regAccessOk off 4 = true)
    (hcmd : off ≠ 0x10) : hostAction (.regWrite e off 4 v) s = .next { t with eng := regStore t.eng off v } := by
  rw [hostAction, onEngine_of_focus _ h, regWrite, if_pos hok, if_neg hcmd]

theorem hostAction_writeCmd {e : Nat} {v : Word} {s t : State} (h : focus e s = some t) :
    hostAction (.regWrite e 0x10 4 v) s = writeCmd v t := by
  rw [hostAction, onEngine_of_focus _ h]
  rfl

theorem regAccessOk_eq_false {off width : Nat} (h : width ≠ 4 ∨ off % 4 ≠ 0 ∨ 0x1C < off) : regAccessOk off width = false := by
  simp only [regAccessOk, Bool.and_eq_false_iff, decide_eq_false_iff_not]
  omega

theorem writeCmd_faulted {s : State} {v : Word} (h : s.eng.run = .faulted) : writeCmd v s = .next s := by
  rw [writeCmd, h]

theorem writeCmd_reject {s : State} {v : Word} {r : Reject} (h : s.eng.run = .idle) (hd : decode v = .reject r) :
    writeCmd v s = .next (raise .illegalEntry (startCommand v s)) := by
  rw [writeCmd, h, hd]

theorem writeCmd_ok {s : State} {v : Word} {i : Instr} (h : s.eng.run = .idle) (hd : decode v = .ok i) :
    writeCmd v s = exec i (startCommand v s) := by
  rw [writeCmd, h, hd]

/-! ### Register accesses and the step -/

/-- Settles O7: the access is the interface's or it is not, and the value is that of its offset. -/
theorem registerReads : Obligations.RegisterReads := by
  refine ⟨fun s t e h => ?_, fun s t e off width v h hbad => ?_⟩
  · refine ⟨?_, ?_, ?_, ?_, ?_, ?_, ?_, ?_⟩ <;> exact hostAction_regRead h rfl
  · have hok := regAccessOk_eq_false hbad
    constructor
    · rw [hostAction, onEngine_of_focus _ h, regRead, hok]
      rfl
    · rw [hostAction, onEngine_of_focus _ h, regWrite, hok]
      rfl

/-- Settles O8: each of the seven offsets is a case of `regStore`. -/
theorem registerWrites : Obligations.RegisterWrites := by
  intro s t e v h
  refine ⟨hostAction_regWrite h rfl (by decide), hostAction_regWrite h rfl (by decide), hostAction_regWrite h rfl (by decide), ?_⟩
  rintro off (rfl | rfl | rfl | rfl) <;> exact hostAction_regWrite h rfl (by decide)

/-- Settles O6: the action reaches the engine, and an idle engine executes the decoded word. -/
theorem stepRunsDecoded : Obligations.StepRunsDecoded := by
  have first : ∀ (s t : State) (h e : Nat) (v : Word) (rest : List HostOp) (i : Instr),
      s.pending = { host := h, act := .regWrite e 0x10 4 v } :: rest →
      focus e { s with pending := rest, host := h } = some t → t.eng.run = .idle → decode v = .ok i →
      step s = exec i (startCommand v t) := by
    intro s t h e v rest i hp hf hidle hd
    rw [step, hp]
    exact (hostAction_writeCmd hf).trans (writeCmd_ok hidle hd)
  exact ⟨first, fun s n w i hidle hd => first (s.withFetchWord n w) s s.host s.lower.length _ s.pending i rfl
    (focus_current s) hidle hd⟩

/-! ### The state after power-up -/

theorem mem_engines_reset {e : Engine} (h : e ∈ State.reset.engines) : e = Engine.afterReset (capWord Config.debugChecks) := by
  rcases List.mem_cons.1 h with rfl | h
  · rfl
  · exact List.eq_of_mem_replicate h

theorem afterReset_ok {c : Word} (hc : c = 0 ∨ c = 1) : EngineOk (Engine.afterReset c) :=
  ⟨hc, fun _ => ⟨.inl rfl, rfl⟩, fun h => by cases h⟩

/-- Settles O14: every engine is the engine after reset; the two values of DEBUG_CHECKS are the cases of its CAP word. -/
theorem resetState : Obligations.ResetState := by
  refine ⟨List.cons_ne_nil _ _, fun e he => ?_, by decide, rfl⟩
  rw [mem_engines_reset he]
  rfl

/-- Settles O15: memory lists nothing, and every engine is the engine after reset, legal for either value of DEBUG_CHECKS. -/
theorem resetMeetsInv : Obligations.ResetMeetsInv := by
  refine ⟨rfl, fun e he => ?_⟩
  rw [mem_engines_reset he]
  refine afterReset_ok ?_
  cases Config.debugChecks
  · exact .inl rfl
  · exact .inr rfl

/-! ### What a command does, whichever it is -/

/-- A command with operands is `perform` on its transfer and its work. -/
theorem exec_memCommand (i : MemCommand) (s : State) :
    exec i.instr s = perform (i.transfer s.eng) (fun m e => i.work m e) s := by
  cases i with
  | block sh t hbd =>
    have htype : txTypeOf (txCode t) = some t := by cases t <;> rfl
    rw [MemCommand.instr, exec_fht, tx2d, htype]
    simp only [shapeTransfer, shapeNout_eq_noutTable]
    rfl
  | wht hbd => rfl
  | vector k => exact exec_k1d k s

/-- A command is NOP, an `FHT*` of a type above 15, or a command with operands. -/
theorem instr_cases (i : Instr) :
    i = .nop ∨ (∃ sh tt hbd, i = fhtInstr sh tt hbd ∧ txTypeOf tt = none) ∨ ∃ c : MemCommand, i = c.instr := by
  have code (tt : BitVec 8) (t : TxType) (h : txTypeOf tt = some t) : txCode t = tt := by
    revert tt t
    decide
  rcases instr_forms i with rfl | ⟨sh, tt, hbd, rfl⟩ | ⟨hbd, rfl⟩ | ⟨k, rfl⟩
  · exact .inl rfl
  · cases h : txTypeOf tt with
    | none => exact .inr (.inl ⟨sh, tt, hbd, rfl, h⟩)
    | some t => exact .inr (.inr ⟨.block sh t hbd, by rw [MemCommand.instr, code tt t h]⟩)
  · exact .inr (.inr ⟨.wht hbd, rfl⟩)
  · exact .inr (.inr ⟨.vector k, rfl⟩)

theorem exec_badType {sh : Shape} {tt : BitVec 8} (hbd : Bool) (s : State) (h : txTypeOf tt = none) :
    exec (fhtInstr sh tt hbd) s = .next (raise .txtypeRange s) := by
  rw [exec_fht, tx2d, h]

theorem work_visible (i : MemCommand) (m : Memory) (e : Engine) :
    (i.work m e).computed.visible = e.visible ∧ (i.work m e).finished.visible = e.visible := by
  cases i with
  | block sh t hbd => exact blockWork_visible sh t _ e
  | wht hbd => exact whtWork_visible _ e
  | vector k => exact vectorWork_visible k _ e

theorem transfer_nout (i : MemCommand) (e : Engine) : (i.transfer e).nout = i.nout := by
  cases i <;> rfl

/-- Good regions end inside the memory. -/
theorem outSpan_le_of_regionRefusal {t : Transfer} {s : State} (h : regionRefusal t s = none) :
    s.eng.dst.toNat + 4 * t.nout ≤ Config.memBytes := by
  unfold regionRefusal at h
  split at h
  · cases h
  · next hwrap =>
    rw [Bool.or_eq_true, not_or] at hwrap
    exact Nat.le_of_not_lt fun hlt => hwrap.2 (decide_eq_true hlt)

/-- What a command that answers a next state has done to the state it started at: it has taken a fault or set DONE, and besides
only worked in the scratch of its engine, recorded itself, and, when it completed, stored words inside the memory. -/
inductive Ran (s : State) : State → Prop where
  | faulted (c : Cause) (e : Engine) (w : List Footprint) (seen : e.visible = s.eng.visible) :
    Ran s (raise c { s with eng := e, window := w })
  | completed (e : Engine) (w : List Footprint) (m : Memory) (seen : e.visible = s.eng.visible)
    (stored : m = s.mem ∨
      ∃ ws : List Lane, s.eng.dst.toNat + 4 * ws.length ≤ Config.memBytes ∧ m = writeWords s.mem s.eng.dst.toNat ws) :
    Ran s (complete { s with eng := e, window := w, mem := m })

/-- A fault taken before the command has done anything. -/
theorem Ran.atOnce (c : Cause) (s : State) : Ran s (raise c s) := .faulted c s.eng s.window rfl

theorem exec_ran {i : Instr} {s s' : State} (h : exec i s = .next s') : Ran s s' := by
  rcases instr_cases i with rfl | ⟨sh, tt, hbd, rfl, htt⟩ | ⟨c, rfl⟩
  · cases h
    exact .completed s.eng s.window s.mem rfl (.inl rfl)
  · rw [exec_badType hbd s htt] at h
    cases h
    exact .atOnce _ s
  · rw [exec_memCommand] at h
    obtain ⟨hcomputed, hfinished⟩ := work_visible c s.mem s.eng
    rcases perform_next h with ⟨_, rfl⟩ | ⟨_, _, _, _, _, rfl⟩ | ⟨_, hregions, _, _, _, rfl⟩
    · exact .atOnce _ s
    · exact .faulted _ _ _ hcomputed
    · refine .completed _ _ _ hfinished (.inr ⟨_, ?_, rfl⟩)
      rw [work_words_length, ← transfer_nout c s.eng]
      exact outSpan_le_of_regionRefusal hregions

theorem writeCmd_ran {s s' : State} {v : Word} (hidle : s.eng.run = .idle) (h : writeCmd v s = .next s') :
    Ran (startCommand v s) s' := by
  cases hd : decode v with
  | ok i => exact exec_ran (writeCmd_ok hidle hd ▸ h)
  | reject r =>
    rw [writeCmd_reject hidle hd] at h
    cases h
    exact .atOnce _ _

theorem Ran.lower {s s' : State} (h : Ran s s') : s'.lower = s.lower := by cases h <;> rfl

theorem Ran.upper {s s' : State} (h : Ran s s') : s'.upper = s.upper := by cases h <;> rfl

/-- A command changes nothing the host sees of its engine but STATUS, FINFO and the run state. -/
theorem Ran.visible {s s' : State} (h : Ran s s') :
    s'.eng.visible = { s.eng.visible with status := s'.eng.status, finfo := s'.eng.finfo, run := s'.eng.run } := by
  cases h with
  | faulted c e w seen => rw [← seen]; rfl
  | completed e w m seen stored => rw [← seen]; rfl

/-- The registers a command does not write. -/
theorem Ran.operands {s s' : State} (h : Ran s s') :
    s'.eng.cmd = s.eng.cmd ∧ s'.eng.cap = s.eng.cap ∧ s'.eng.src = s.eng.src ∧ s'.eng.stride = s.eng.stride ∧
      s'.eng.dst = s.eng.dst :=
  have seen := h.visible
  ⟨congrArg Visible.cmd seen, congrArg Visible.cap seen, congrArg Visible.src seen, congrArg Visible.stride seen,
    congrArg Visible.dst seen⟩

/-- Settles O9: whatever the command has done, it is a `Ran`, which writes none of these registers. -/
theorem commandRegister : Obligations.CommandRegister := by
  refine ⟨fun s s' v hidle h => (writeCmd_ran hidle h).operands, fun s v hf => writeCmd_faulted hf, ?_⟩
  rintro s s' v e rfl hidle h
  have ran := writeCmd_ran hidle h
  have hcur : focus s.lower.length s' = some s' := by
    rw [← show s'.lower = s.lower from ran.lower]
    exact focus_current s'
  rw [hostAction_regRead hcur rfl, ← show s'.eng.cmd = v from ran.operands.1]
  rfl

/-! ### The invariant -/

/-- Whether an engine is legal can be seen by the host. -/
theorem EngineOk.of_visible {e e' : Engine} (h : EngineOk e) (seen : e'.visible = e.visible) : EngineOk e' := by
  have hcap : e'.cap = e.cap := congrArg Visible.cap seen
  have hcmd : e'.cmd = e.cmd := congrArg Visible.cmd seen
  have hstatus : e'.status = e.status := congrArg Visible.status seen
  have hfinfo : e'.finfo = e.finfo := congrArg Visible.finfo seen
  have hrun : e'.run = e.run := congrArg Visible.run seen
  exact ⟨hcap ▸ h.cap, by rw [hrun, hstatus, hfinfo]; exact h.idle, by rw [hrun, hstatus, hfinfo, hcmd]; exact h.faulted⟩

theorem EngineOk.startCommand {s : State} (v : Word) (h : EngineOk s.eng) (hidle : s.eng.run = .idle) :
    EngineOk (startCommand v s).eng :=
  ⟨h.cap, h.idle, fun hf => absurd (hidle.symm.trans hf) (by decide)⟩

/-- A legal idle engine that takes a fault is a legal faulted one (R204). -/
theorem EngineOk.raise {s : State} (c : Cause) (h : EngineOk s.eng) (hidle : s.eng.run = .idle) : EngineOk (raise c s).eng :=
  ⟨h.cap, fun hrun => (nomatch hrun), fun _ => ⟨⟨c, setFault_of_idle c _ (h.idle hidle).1⟩, rfl⟩⟩

/-- A legal idle engine that completes a command stays legal and shows DONE. -/
theorem EngineOk.complete {s : State} (h : EngineOk s.eng) (hidle : s.eng.run = .idle) : EngineOk (complete s).eng :=
  ⟨h.cap, fun _ => ⟨.inr (setDone_of_idle _ (h.idle hidle).1), (h.idle hidle).2⟩,
    fun hf => absurd (hidle.symm.trans hf) (by decide)⟩

theorem EngineOk.regStore {e : Engine} (off : Nat) (v : Word) (h : EngineOk e) : EngineOk (regStore e off v) := by
  unfold Machine.regStore
  split <;> exact ⟨h.cap, h.idle, h.faulted⟩

/-- The invariant speaks of the engines and the memory alone. -/
theorem State.Inv.congr {s t : State} (h : s.Inv) (he : t.engines = s.engines) (hm : t.mem = s.mem) : t.Inv :=
  ⟨hm ▸ h.mem, he ▸ h.engines⟩

theorem State.Inv.current {s : State} (h : s.Inv) : EngineOk s.eng := h.engines _ (eng_mem_engines s)

/-- An update of the current engine and of memory keeps the invariant if it leaves a legal engine and a canonical memory. -/
theorem State.Inv.update {s t : State} (h : s.Inv) (hl : t.lower = s.lower) (hu : t.upper = s.upper) (hm : t.mem.wf = true)
    (he : EngineOk t.eng) : t.Inv := by
  refine ⟨hm, fun e hmem => ?_⟩
  rw [engines_set s t hl hu] at hmem
  rcases List.mem_or_eq_of_mem_set hmem with hmem | rfl
  · exact h.engines e hmem
  · exact he

theorem State.Inv.focus {k : Nat} {s t : State} (h : s.Inv) (hf : focus k s = some t) : t.Inv := by
  obtain ⟨hengines, _, _, hmem, _⟩ := focus_some hf
  exact h.congr hengines hmem

theorem Ran.inv {s s' : State} (h : Ran s s') (hinv : s.Inv) (hidle : s.eng.run = .idle) : s'.Inv := by
  refine hinv.update h.lower h.upper ?_ ?_
  · cases h with
    | faulted c e w seen => exact hinv.mem
    | completed e w m seen stored =>
      rcases stored with rfl | ⟨ws, hle, rfl⟩
      · exact hinv.mem
      · exact writeWords_wf _ _ _ hinv.mem hle
  · cases h with
    | faulted c e w seen =>
      exact EngineOk.raise (s := { s with eng := e, window := w }) c (hinv.current.of_visible seen)
        ((congrArg Visible.run seen).trans hidle)
    | completed e w m seen stored =>
      exact EngineOk.complete (s := { s with eng := e, window := w, mem := m }) (hinv.current.of_visible seen)
        ((congrArg Visible.run seen).trans hidle)

theorem writeCmd_inv {s s' : State} {v : Word} (hinv : s.Inv) (h : writeCmd v s = .next s') : s'.Inv := by
  cases hrun : s.eng.run with
  | idle =>
    have hstart : (startCommand v s).Inv := hinv.update rfl rfl hinv.mem (hinv.current.startCommand v hrun)
    exact (writeCmd_ran hrun h).inv hstart hrun
  | faulted =>
    rw [writeCmd_faulted hrun] at h
    cases h
    exact hinv

theorem regWrite_inv {s s' : State} {off width : Nat} {v : Word} (hinv : s.Inv) (h : regWrite off width v s = .next s') :
    s'.Inv := by
  unfold regWrite at h
  split at h
  · split at h
    · exact writeCmd_inv hinv h
    · cases h
      exact hinv.update rfl rfl hinv.mem (hinv.current.regStore off v)
  · cases h

theorem regRead_inv {s s' : State} {off width : Nat} (hinv : s.Inv) (h : regRead off width s = .next s') : s'.Inv := by
  unfold regRead at h
  split at h
  · cases h
    exact hinv.congr rfl rfl
  · cases h

theorem hostStore_inv {s s' : State} {w : StoreWidth} {addr v : Word} (hinv : s.Inv) (h : hostStore w addr v s = .next s') :
    s'.Inv := by
  unfold hostStore at h
  split at h
  · cases h
  · next hin =>
    split at h
    · cases h
      exact hinv.update rfl rfl (memWrite_wf _ _ _ _ hinv.mem (Nat.le_of_not_lt hin)) hinv.current
    · cases h

theorem hostLoad_inv {s s' : State} {addr : Word} (hinv : s.Inv) (h : hostLoad addr s = .next s') : s'.Inv := by
  unfold hostLoad at h
  split at h
  · cases h
  · split at h
    · cases h
      exact hinv.congr rfl rfl
    · cases h

/-- Every action of a host or the platform keeps the invariant. -/
theorem hostAction_inv {s s' : State} {act : HostAction} (hinv : s.Inv) (h : hostAction act s = .next s') : s'.Inv := by
  cases act with
  | regWrite e off width v =>
    obtain ⟨t, hf, h⟩ := onEngine_next h
    exact regWrite_inv (hinv.focus hf) h
  | regRead e off width =>
    obtain ⟨t, hf, h⟩ := onEngine_next h
    exact regRead_inv (hinv.focus hf) h
  | store w addr v => exact hostStore_inv hinv h
  | load addr => exact hostLoad_inv hinv h
  | reset e =>
    obtain ⟨t, hf, h⟩ := onEngine_next h
    cases h
    have ht := hinv.focus hf
    exact ht.update rfl rfl ht.mem (afterReset_ok ht.current.cap)
  | sync => cases h; exact hinv.congr rfl rfl
  | signal token => cases h; exact hinv.congr rfl rfl
  | wait token => cases h; exact hinv.congr rfl rfl

/-- Settles O16: the actions one by one, a command being whatever `Ran` says. -/
theorem stepKeepsInv : Obligations.StepKeepsInv := by
  intro s s' hinv h
  unfold step at h
  split at h
  · cases h
    exact hinv
  · next op rest _ =>
    have hnext : State.Inv { s with pending := rest, host := op.host } := hinv.congr rfl rfl
    exact hostAction_inv hnext h

end Sys2Proof.Machine
end

section
/-! PROOFS, the scratch a command writes (10_state.md R14, R26 to R28): no lane beyond the vectors of its kernel runs, no element of
a block buffer beyond the grid it leaves there. -/

namespace Sys2Proof.Machine

/-! ### What an overlay leaves -/

theorem overlay_getElem {α : Type} (xs : List α) (old : Vector α 64) (j : Nat) (hj : j < 64) :
    (overlay xs old)[j] = xs.getD j old[j] := by
  simp [overlay]

theorem overlay_beyond {α : Type} {xs : List α} (old : Vector α 64) {j : Nat} (hj : j < 64) (h : xs.length ≤ j) :
    (overlay xs old)[j] = old[j] := by
  rw [overlay_getElem, List.getD_eq_default _ _ h]

/-- Two buffers agree outside the top left `h` rows and `w` columns. -/
def SameOutsideGrid {α : Type} (h w : Nat) (old new : Vector (Vector α 64) 64) : Prop :=
  ∀ r c (hr : r < 64) (hc : c < 64), h ≤ r ∨ w ≤ c → new[r][c] = old[r][c]

theorem overlayGrid_outside {α : Type} {h w : Nat} {g : List (List α)} (hg : IsGrid h w g) (old : Vector (Vector α 64) 64) :
    SameOutsideGrid h w old (overlayGrid g old) := by
  intro r c hr hc hout
  have hrow : (g.getD r []).length ≤ c := by
    rcases Nat.lt_or_ge r g.length with hlt | hge
    · rw [List.getD_eq_getElem _ _ hlt, hg.2 _ (List.getElem_mem hlt)]
      have := hg.1
      omega
    · rw [List.getD_eq_default _ _ hge]
      exact Nat.zero_le c
  simp only [overlayGrid, Vector.getElem_ofFn]
  exact overlay_beyond _ hc hrow

theorem SameOutsideGrid.trans {α : Type} {h w : Nat} {x y z : Vector (Vector α 64) 64} (hxy : SameOutsideGrid h w x y)
    (hyz : SameOutsideGrid h w y z) : SameOutsideGrid h w x z :=
  fun r c hr hc hout => (hyz r c hr hc hout).trans (hxy r c hr hc hout)

/-! ### The lanes -/

/-- The lanes of VIN, VOUT and of the stage vectors from index `n` on are the same in two engines. -/
def SameLanesFrom (n : Nat) (e e' : Engine) : Prop :=
  ∀ j (hj : j < 64), n ≤ j → e'.vin[j] = e.vin[j] ∧ e'.vout[j] = e.vout[j] ∧ ∀ i (hi : i < 12), e'.b[i][j] = e.b[i][j]

theorem SameLanesFrom.refl (n : Nat) (e : Engine) : SameLanesFrom n e e := fun _ _ _ => ⟨rfl, rfl, fun _ _ => rfl⟩

theorem SameLanesFrom.trans {n : Nat} {x y z : Engine} (hxy : SameLanesFrom n x y) (hyz : SameLanesFrom n y z) :
    SameLanesFrom n x z := by
  intro j hj hn
  obtain ⟨hvin, hvout, hb⟩ := hxy j hj hn
  obtain ⟨hvin', hvout', hb'⟩ := hyz j hj hn
  exact ⟨hvin'.trans hvin, hvout'.trans hvout, fun i hi => (hb' i hi).trans (hb i hi)⟩

/-- The block buffers and the flags are no lanes. -/
theorem SameLanesFrom.of_lanes {n : Nat} {e e' : Engine} (h : SameLanesFrom n e e') (status finfo : Word) (run : RunState)
    (xbuf : Vector (Vector Sample 64) 64) (mid res : Vector (Vector Lane 64) 64) (viol : Bool) :
    SameLanesFrom n e { e' with
      status := status, finfo := finfo, run := run, xbuf := xbuf, mid := mid, res := res, viol := viol } :=
  h

@[simp] theorem writeLanes_vin (e : Engine) (k : KernelRun) : (writeLanes e k).vin = overlay k.vin e.vin := rfl

@[simp] theorem writeLanes_vout (e : Engine) (k : KernelRun) : (writeLanes e k).vout = overlay k.vout e.vout := rfl

@[simp] theorem writeLanes_xbuf (e : Engine) (k : KernelRun) : (writeLanes e k).xbuf = e.xbuf := by
  simp only [writeLanes]

@[simp] theorem writeLanes_mid (e : Engine) (k : KernelRun) : (writeLanes e k).mid = e.mid := by
  simp only [writeLanes]

@[simp] theorem writeLanes_res (e : Engine) (k : KernelRun) : (writeLanes e k).res = e.res := by
  simp only [writeLanes]

theorem writeLanes_b (e : Engine) (k : KernelRun) (i : Nat) (hi : i < 12) :
    (writeLanes e k).b[i] = overlay (k.stages.getD i []) e.b[i] := by
  simp [writeLanes]

theorem writeLanes_sameLanes {n m : Nat} {k : KernelRun} (hk : k.Fits n) (hm : n ≤ m) (e : Engine) :
    SameLanesFrom m e (writeLanes e k) := by
  intro j hj hn
  have hstage (i : Nat) : (k.stages.getD i []).length ≤ j := by
    rcases Nat.lt_or_ge i k.stages.length with hlt | hge
    · rw [List.getD_eq_getElem _ _ hlt]
      have := hk.stages _ (List.getElem_mem hlt)
      omega
    · rw [List.getD_eq_default _ _ hge]
      exact Nat.zero_le j
  have hnj := hm.trans hn
  rw [writeLanes_vin, writeLanes_vout, overlay_beyond _ hj (hk.vin.trans_le hnj), overlay_beyond _ hj (hk.vout.trans_le hnj)]
  refine ⟨rfl, rfl, fun i hi => ?_⟩
  rw [writeLanes_b e k i hi, overlay_beyond _ hj (hstage i)]

theorem foldl_writeLanes_sameLanes {m : Nat} (ks : List KernelRun) (h : ∀ k ∈ ks, ∃ n, n ≤ m ∧ k.Fits n) (e : Engine) :
    SameLanesFrom m e (ks.foldl writeLanes e) := by
  induction ks generalizing e with
  | nil => exact .refl m e
  | cons k ks ih =>
    obtain ⟨n, hm, hk⟩ := h k (by simp)
    rw [List.foldl_cons]
    exact (writeLanes_sameLanes hk hm e).trans (ih (fun x hx => h x (by simp [hx])) _)

theorem foldl_writeLanes_xbuf (ks : List KernelRun) (e : Engine) : (ks.foldl writeLanes e).xbuf = e.xbuf := by
  induction ks generalizing e with
  | nil => rfl
  | cons k ks ih => rw [List.foldl_cons, ih, writeLanes_xbuf]

/-! ### What each form of work leaves -/

/-- The scratch of two engines differs at most in the top left `h` by `w` of the block buffers and in the lanes below `n`. -/
structure ScratchWithin (h w n : Nat) (e e' : Engine) : Prop where
  xbuf : SameOutsideGrid h w e.xbuf e'.xbuf
  mid : SameOutsideGrid h w e.mid e'.mid
  res : SameOutsideGrid h w e.res e'.res
  lanes : SameLanesFrom n e e'

theorem ScratchWithin.refl (h w n : Nat) (e : Engine) : ScratchWithin h w n e e :=
  ⟨fun _ _ _ _ _ => rfl, fun _ _ _ _ _ => rfl, fun _ _ _ _ _ => rfl, .refl n e⟩

theorem writeScratch_within {h w : Nat} {x : List (List Sample)} {p : Passes × Bool} (hx : IsGrid h w x) (hp : p.1.Fits h w)
    (e : Engine) : ScratchWithin h w (max w h) e (writeScratch e x p) := by
  rw [writeScratch]
  exact ⟨overlayGrid_outside hx e.xbuf, overlayGrid_outside hp.mid e.mid, overlayGrid_outside hp.res e.res,
    (foldl_writeLanes_sameLanes p.1.runs hp.runs e).of_lanes _ _ _ _ _ _ _⟩

theorem blockWork_within (sh : Shape) (t : TxType) {x : List (List Sample)} (hx : IsGrid (shapeHeight sh) (shapeWidth sh) x)
    (e : Engine) :
    ScratchWithin (shapeHeight sh) (shapeWidth sh) (max (shapeWidth sh) (shapeHeight sh)) e (blockWork sh t x e).computed ∧
    ScratchWithin (shapeHeight sh) (shapeWidth sh) (max (shapeWidth sh) (shapeHeight sh)) e (blockWork sh t x e).finished := by
  have fits := shapePasses_fits sh t hx false
  have scratch := writeScratch_within hx fits e
  have zeroed := scratch.res.trans (overlayGrid_outside (isGrid_zeroHigh fits.res) _)
  simp only [blockWork]
  exact ⟨scratch, scratch.xbuf, scratch.mid, zeroed, scratch.lanes.of_lanes _ _ _ _ _ _ _⟩

theorem whtWork_xbuf (x : List (List Lane)) (e : Engine) : (whtWork x e).computed.xbuf = e.xbuf := by
  simp only [whtWork, foldl_writeLanes_xbuf]

theorem whtWork_finished (x : List (List Lane)) (e : Engine) : (whtWork x e).finished = (whtWork x e).computed := by
  simp only [whtWork]

theorem whtWork_within {x : List (List Lane)} (hx : IsGrid 4 4 x) (e : Engine) : ScratchWithin 4 4 4 e (whtWork x e).computed := by
  have fits := whtPasses_fits hx false
  refine ⟨fun r c hr hc _ => by rw [whtWork_xbuf], ?_, ?_, ?_⟩ <;> simp only [whtWork]
  · exact overlayGrid_outside fits.mid e.mid
  · exact overlayGrid_outside fits.res e.res
  · exact (foldl_writeLanes_sameLanes _ fits.runs e).of_lanes _ _ _ _ _ _ _

/-- A K1D command writes no block buffer, and lanes below its length alone. -/
theorem vectorWork_scratch {k : Kernel} {v : List Lane} (hv : v.length = kernelLen k) (e : Engine) :
    (vectorWork k v e).finished = (vectorWork k v e).computed ∧ (vectorWork k v e).computed.xbuf = e.xbuf ∧
      (vectorWork k v e).computed.mid = e.mid ∧ (vectorWork k v e).computed.res = e.res ∧
      SameLanesFrom (kernelLen k) e (vectorWork k v e).computed := by
  have lanes := writeLanes_sameLanes (runKernel_ensures k v hv false) (Nat.le_refl _) e
  simp only [vectorWork, writeLanes_xbuf, writeLanes_mid, writeLanes_res, true_and]
  exact lanes.of_lanes _ _ _ _ _ _ _

/-! ### The commands -/

/-- A property of engines that STATUS, FINFO and the run state do not enter, and that the engine before, the engine after the computation
and the engine after the last phase have, holds after the command. -/
theorem perform_scratch {t : Transfer} {work : Memory → Engine → Work} {s s' : State} (P : Engine → Prop)
    (hflags : ∀ (e : Engine) (status finfo : Word) (run : RunState), P e → P { e with status := status, finfo := finfo, run := run })
    (hbefore : P s.eng) (hcomputed : P (work s.mem s.eng).computed) (hfinished : P (work s.mem s.eng).finished)
    (h : perform t work s = .next s') : P s'.eng := by
  rcases perform_next h with ⟨_, rfl⟩ | ⟨_, _, _, _, _, rfl⟩ | ⟨_, _, _, _, _, rfl⟩
  · exact hflags _ _ _ _ hbefore
  · exact hflags _ _ _ _ hcomputed
  · exact hflags _ _ _ _ hfinished

theorem exec_fht_within {sh : Shape} {tt : BitVec 8} {hbd : Bool} {s s' : State} (h : exec (fhtInstr sh tt hbd) s = .next s') :
    ScratchWithin (shapeHeight sh) (shapeWidth sh) (max (shapeWidth sh) (shapeHeight sh)) s.eng s'.eng := by
  have scratch := ScratchWithin.refl (shapeHeight sh) (shapeWidth sh) (max (shapeWidth sh) (shapeHeight sh)) s.eng
  rw [exec_fht, tx2d] at h
  split at h
  · cases h
    exact ⟨scratch.xbuf, scratch.mid, scratch.res, scratch.lanes⟩
  · next t _ =>
    obtain ⟨hcomputed, hfinished⟩ := blockWork_within sh t (isGrid_shapeBlock sh t hbd s.mem s.eng) s.eng
    exact perform_scratch _ (fun _ _ _ _ hp => ⟨hp.xbuf, hp.mid, hp.res, hp.lanes⟩) scratch hcomputed hfinished h

theorem exec_fwht (hbd : Bool) (s : State) :
    exec (.fwht4x4 hbd) s = perform (blockTransfer 4 4 hbd 16 s.eng) (fun m e => whtWork (whtBlock hbd m e) e) s := rfl

theorem exec_fwht_within {hbd : Bool} {s s' : State} (h : exec (.fwht4x4 hbd) s = .next s') :
    s'.eng.xbuf = s.eng.xbuf ∧ ScratchWithin 4 4 4 s.eng s'.eng := by
  rw [exec_fwht] at h
  have within := whtWork_within (isGrid_whtBlock hbd s.mem s.eng) s.eng
  have hxbuf := whtWork_xbuf (whtBlock hbd s.mem s.eng) s.eng
  have hfin := whtWork_finished (whtBlock hbd s.mem s.eng) s.eng
  refine perform_scratch (fun e => e.xbuf = s.eng.xbuf ∧ ScratchWithin 4 4 4 s.eng e) ?_ ⟨rfl, .refl _ _ _ s.eng⟩ ?_ ?_ h
  · exact fun _ _ _ _ hp => ⟨hp.1, hp.2.xbuf, hp.2.mid, hp.2.res, hp.2.lanes⟩
  · exact ⟨hxbuf, within⟩
  · rw [hfin]
    exact ⟨hxbuf, within⟩

/-- Settles O31: the kernel run has the kernel's length, and only the lanes are written. -/
theorem vectorScratchFrame : Obligations.VectorScratchFrame := by
  intro k s s' h
  rw [exec_k1d, k1d] at h
  have hlen : (inputVector (kernelLen k) s.mem s.eng).length = kernelLen k := by simp [inputVector]
  obtain ⟨hfin, scratch⟩ := vectorWork_scratch hlen s.eng
  exact perform_scratch
    (fun e => e.xbuf = s.eng.xbuf ∧ e.mid = s.eng.mid ∧ e.res = s.eng.res ∧ SameLanesFrom (kernelLen k) s.eng e)
    (fun _ _ _ _ hp => hp) ⟨rfl, rfl, rfl, .refl _ _⟩ scratch (by rw [hfin]; exact scratch) h

/-- Settles O32: the block, MID, RES and the zeroed RES are grids of the shape, and every kernel run is as long as one of its sides. -/
theorem blockScratchFrame : Obligations.BlockScratchFrame := by
  refine ⟨fun sh tt hbd s s' h r c hr hc hout => ?_, fun sh tt hbd s s' h => ?_, fun hbd s s' h => ?_⟩
  · have within := exec_fht_within h
    exact ⟨within.xbuf r c hr hc hout, within.mid r c hr hc hout, within.res r c hr hc hout⟩
  · exact (exec_fht_within h).lanes
  · obtain ⟨hx, within⟩ := exec_fwht_within h
    exact ⟨hx, fun r c hr hc hout => ⟨within.mid r c hr hc hout, within.res r c hr hc hout⟩, within.lanes⟩

end Sys2Proof.Machine
end

section
/-! PROOFS, R36 of 10_state.md: what a command does is a function of its word, the operand registers, DEBUG_CHECKS and the bytes of its
input region. -/

namespace Sys2Proof.Machine

/-! ### What a command computes depends on its input bytes alone -/

theorem sampleAddr_congr {e e' : Engine} (hsrc : e.src = e'.src) (hstride : e.stride = e'.stride) : sampleAddr e = sampleAddr e' := by
  funext hbd r c
  rw [sampleAddr, sampleAddr, hsrc, hstride]

theorem wordAddr_congr {e e' : Engine} (hsrc : e.src = e'.src) : wordAddr e = wordAddr e' := by
  funext i
  rw [wordAddr, wordAddr, hsrc]

theorem transfer_congr {e e' : Engine} (i : MemCommand) (hsrc : e.src = e'.src) (hstride : e.stride = e'.stride) :
    i.transfer e = i.transfer e' := by
  cases i <;>
    simp only [MemCommand.transfer, blockTransfer, vectorTransfer, sampleAddr_congr hsrc hstride, wordAddr_congr hsrc, hsrc, hstride]

theorem misaligned_congr {e e' : Engine} (t : Transfer) (hsrc : e.src = e'.src) (hdst : e.dst = e'.dst) :
    misaligned t e = misaligned t e' := by
  rw [misaligned, misaligned, hsrc, hdst]

/-- A sample is a function of its own bytes. -/
theorem sample_congr {m m' : Memory} {e e' : Engine} {hbd : Bool} {r c : Nat} (haddr : sampleAddr e = sampleAddr e')
    (hbytes : ∀ j, j < sampleBytes hbd → readByte m (sampleAddr e hbd r c + j) = readByte m' (sampleAddr e hbd r c + j)) :
    sample m e hbd r c = sample m' e' hbd r c := by
  have hread : memRead m (sampleAddr e hbd r c) (sampleBytes hbd) = memRead m' (sampleAddr e hbd r c) (sampleBytes hbd) := by
    refine memRead_congr _ _ _ _ fun k hlo hhi => ?_
    have := hbytes (k - sampleAddr e hbd r c) (by omega)
    rwa [Nat.add_sub_cancel' hlo] at this
  rw [sample, sample, ← haddr]
  cases hbd with
  | false => exact congrArg (fun n => (BitVec.ofNat 8 n).signExtend 16) hread
  | true => exact congrArg (BitVec.ofNat 16) hread

theorem inputWord_congr {m m' : Memory} {e e' : Engine} {i : Nat} (haddr : wordAddr e = wordAddr e')
    (hbytes : ∀ j, j < 4 → readByte m (wordAddr e i + j) = readByte m' (wordAddr e i + j)) :
    inputWord m e i = inputWord m' e' i := by
  rw [inputWord, inputWord, ← haddr]
  refine congrArg (BitVec.ofNat 32) (memRead_congr _ _ _ _ fun k hlo hhi => ?_)
  have := hbytes (k - wordAddr e i) (by omega)
  rwa [Nat.add_sub_cancel' hlo] at this

/-- A conditioned block is made of the samples of its shape: a mirrored row or column is one of them. -/
theorem condition_congr (f : FlipClass) {w h : Nat} {smp smp' : Nat → Nat → Sample}
    (hsmp : ∀ r c, r < h → c < w → smp r c = smp' r c) : condition f w h smp = condition f w h smp' := by
  refine List.map_congr_left fun r hr => List.map_congr_left fun c hc => ?_
  rw [List.mem_range] at hr hc
  refine hsmp _ _ ?_ ?_ <;> split <;> omega

theorem whtBlock_congr {hbd : Bool} {m m' : Memory} {e e' : Engine}
    (hsmp : ∀ r c, r < 4 → c < 4 → sample m e hbd r c = sample m' e' hbd r c) : whtBlock hbd m e = whtBlock hbd m' e' := by
  refine List.map_congr_left fun r hr => List.map_congr_left fun c hc => ?_
  rw [List.mem_range] at hr hc
  rw [hsmp r c hr hc]

theorem blockWork_viol (sh : Shape) (t : TxType) (x : List (List Sample)) (e : Engine) :
    (blockWork sh t x e).computed.viol = ((shapePasses sh t x).run false).2 := by
  simp only [blockWork, writeScratch]

theorem whtWork_viol (x : List (List Lane)) (e : Engine) : (whtWork x e).computed.viol = ((whtPasses x).run false).2 := by
  simp only [whtWork]

theorem vectorWork_viol (k : Kernel) (v : List Lane) (e : Engine) :
    (vectorWork k v e).computed.viol = ((runKernel k v).run false).2 := by
  simp only [vectorWork]

/-- The output words and the budget bit are a function of SRC, STRIDE and the bytes of the input region. -/
theorem work_congr {m m' : Memory} {e e' : Engine} (i : MemCommand) (hsrc : e.src = e'.src) (hstride : e.stride = e'.stride)
    (hbytes : ∀ a, i.InputByte e a → readByte m a = readByte m' a) :
    (i.work m e).words = (i.work m' e').words ∧ (i.work m e).computed.viol = (i.work m' e').computed.viol := by
  have haddr := sampleAddr_congr hsrc hstride
  cases i with
  | block sh t hbd =>
    have hblock : shapeBlock sh t hbd m e = shapeBlock sh t hbd m' e' :=
      condition_congr _ fun r c hr hc => sample_congr haddr fun j hj => hbytes _ ⟨r, c, j, hr, hc, hj, rfl⟩
    simp only [MemCommand.work, blockWork_words, blockWork_viol, hblock, and_self]
  | wht hbd =>
    have hblock : whtBlock hbd m e = whtBlock hbd m' e' :=
      whtBlock_congr fun r c hr hc => sample_congr haddr fun j hj => hbytes _ ⟨r, c, j, hr, hc, hj, rfl⟩
    simp only [MemCommand.work, whtWork_words, whtWork_viol, hblock, and_self]
  | vector k =>
    have hvector : inputVector (kernelLen k) m e = inputVector (kernelLen k) m' e' :=
      List.map_congr_left fun i hi =>
        inputWord_congr (wordAddr_congr hsrc) fun j hj => hbytes _ ⟨i, j, List.mem_range.1 hi, hj, rfl⟩
    simp only [MemCommand.work, vectorWork_words, vectorWork_viol, hvector, and_self]

/-! ### What the host sees of the outcome -/

/-- A legal idle engine that holds the command word `v`. -/
structure Started (v : Word) (e : Engine) : Prop where
  ok : EngineOk e
  idle : e.run = .idle
  cmd : e.cmd = v

theorem Started.of_visible {v : Word} {e e' : Engine} (h : Started v e) (seen : e'.visible = e.visible) : Started v e' :=
  ⟨h.ok.of_visible seen, (congrArg Visible.run seen).trans h.idle, (congrArg Visible.cmd seen).trans h.cmd⟩

theorem started_startCommand {s : State} (v : Word) (h : EngineOk s.eng) (hidle : s.eng.run = .idle) :
    Started v (startCommand v s).eng :=
  ⟨h.startCommand v hidle, hidle, rfl⟩

/-- Two engines that end a command alike. -/
structure SameFlags (e e' : Engine) : Prop where
  status : e.status = e'.status
  finfo : e.finfo = e'.finfo
  run : e.run = e'.run

theorem sameFlags_raise {v : Word} {s s' : State} (c : Cause) (h : Started v s.eng) (h' : Started v s'.eng) :
    SameFlags (raise c s).eng (raise c s').eng where
  status := (setFault_of_idle c _ (h.ok.idle h.idle).1).trans (setFault_of_idle c _ (h'.ok.idle h'.idle).1).symm
  finfo := h.cmd.trans h'.cmd.symm
  run := rfl

theorem sameFlags_complete {v : Word} {s s' : State} (h : Started v s.eng) (h' : Started v s'.eng) :
    SameFlags (complete s).eng (complete s').eng where
  status := (setDone_of_idle _ (h.ok.idle h.idle).1).trans (setDone_of_idle _ (h'.ok.idle h'.idle).1).symm
  finfo := (h.ok.idle h.idle).2.trans (h'.ok.idle h'.idle).2.symm
  run := h.idle.trans h'.idle.symm

/-- Output word `k` reads back where it was stored. -/
theorem memRead_outAddr {e : Engine} (m : Memory) {ws : List Lane} {k : Nat} (hfit : e.dst.toNat + 4 * ws.length ≤ Config.memBytes)
    (hk : k < ws.length) : memRead (writeWords m e.dst.toNat ws) (outAddr e k) 4 = (ws.getD k 0).toNat := by
  rw [outAddr, Nat.mod_eq_of_lt (by omega), memRead_writeWords _ _ _ _ hk]

/-! ### Two runs on the same input -/

theorem perform_misaligned {t : Transfer} {work : Memory → Engine → Work} {s : State} (h : misaligned t s.eng = true) :
    perform t work s = .next (raise .operandAlign s) := by
  rw [perform, if_pos h]

theorem perform_overBudget {t : Transfer} {work : Memory → Engine → Work} {s : State} (h : Ready t s)
    (hviol : (work s.mem s.eng).computed.viol = true) (hchecks : debugChecks s.eng = true) :
    perform t work s = .next (raise .rangeBudget { recordFootprint t s with eng := (work s.mem s.eng).computed }) := by
  rw [perform, h.aligned, h.regions, h.reads, hviol, hchecks]
  rfl

/-- Two systems that agree in what R36 lets a command depend on. -/
structure SameInput (i : MemCommand) (s s' : State) : Prop where
  cap : s.eng.cap = s'.eng.cap
  src : s.eng.src = s'.eng.src
  stride : s.eng.stride = s'.eng.stride
  dst : s.eng.dst = s'.eng.dst
  bytes : ∀ a, i.InputByte s.eng a → readByte s.mem a = readByte s'.mem a

/-- A command that answers a next state in one system answers one in the other, if its premises hold there, with the same flags and,
when it completes, the same output words. -/
theorem exec_same {i : MemCommand} {v : Word} {s s' t : State} (same : SameInput i s s') (hs : Started v s.eng)
    (hs' : Started v s'.eng) (hregions : regionRefusal (i.transfer s'.eng) s' = none)
    (hreads : readsAdmitted (i.transfer s'.eng) s' = true) (hwrites : writesAdmitted (i.transfer s'.eng) s' = true)
    (h : exec i.instr s = .next t) :
    ∃ t', exec i.instr s' = .next t' ∧ SameFlags t.eng t'.eng ∧
      (t.eng.run = .idle → ∀ k, k < i.nout → memRead t.mem (outAddr s.eng k) 4 = memRead t'.mem (outAddr s'.eng k) 4) := by
  obtain ⟨hwords, hviol⟩ := work_congr i same.src same.stride same.bytes
  obtain ⟨hcomputed, hfinished⟩ := work_visible i s.mem s.eng
  obtain ⟨hcomputed', hfinished'⟩ := work_visible i s'.mem s'.eng
  have halign : misaligned (i.transfer s.eng) s.eng = misaligned (i.transfer s'.eng) s'.eng := by
    rw [transfer_congr i same.src same.stride, misaligned_congr _ same.src same.dst]
  have hchecks : debugChecks s.eng = debugChecks s'.eng := congrArg (fun c : Word => c.getLsbD 0) same.cap
  rw [exec_memCommand] at h ⊢
  rcases perform_next h with ⟨hm, rfl⟩ | ⟨hm, _, _, hv, hc, rfl⟩ | ⟨hm, hr, _, _, hb, rfl⟩
  · exact ⟨_, perform_misaligned (halign ▸ hm), sameFlags_raise _ hs hs', fun hidle => nomatch hidle⟩
  · have ready : Ready (i.transfer s'.eng) s' := ⟨halign ▸ hm, hregions, hreads, hwrites⟩
    exact ⟨_, perform_overBudget ready (hviol ▸ hv) (hchecks ▸ hc),
      sameFlags_raise _ (hs.of_visible hcomputed) (hs'.of_visible hcomputed'), fun hidle => nomatch hidle⟩
  · have ready : Ready (i.transfer s'.eng) s' := ⟨halign ▸ hm, hregions, hreads, hwrites⟩
    refine ⟨_, perform_ready ready (hviol ▸ hchecks ▸ hb),
      sameFlags_complete (hs.of_visible hfinished) (hs'.of_visible hfinished'), fun _ k hk => ?_⟩
    have hlen := work_words_length i s.mem s.eng
    have hfit := outSpan_le_of_regionRefusal hr
    rw [transfer_nout, ← hlen] at hfit
    have hfit' := hfit
    rw [same.dst, hwords] at hfit'
    rw [complete_mem, complete_mem, memRead_outAddr _ hfit (hlen ▸ hk), memRead_outAddr _ hfit' (hwords ▸ hlen ▸ hk), hwords]

/-- Settles O33: the two writes decode alike; a word without operands ends alike at once, a command with operands by `exec_same`. -/
theorem stateless : Obligations.Stateless := by
  intro v s1 s2 t1 ok1 ok2 idle1 idle2 hcap hsrc hstride hdst hprem h
  have start1 := started_startCommand v ok1 idle1
  have start2 := started_startCommand v ok2 idle2
  have run (i : MemCommand) (hd : decode v = .ok i.instr) : ∃ t2, writeCmd v s2 = .next t2 ∧ SameFlags t1.eng t2.eng ∧
      (t1.eng.run = .idle → ∀ k, k < i.nout → memRead t1.mem (outAddr s1.eng k) 4 = memRead t2.mem (outAddr s2.eng k) 4) := by
    obtain ⟨hbytes, hregions, hreads, hwrites⟩ := hprem i hd
    rw [writeCmd_ok idle1 hd] at h
    rw [writeCmd_ok idle2 hd]
    have same : SameInput i (startCommand v s1) (startCommand v s2) := ⟨hcap, hsrc, hstride, hdst, hbytes⟩
    have ends := exec_same same start1 start2 hregions hreads hwrites h
    exact ends
  suffices hflags : ∃ t2, writeCmd v s2 = .next t2 ∧ SameFlags t1.eng t2.eng by
    obtain ⟨t2, h2, flags⟩ := hflags
    refine ⟨t2, h2, flags.status, flags.finfo, flags.run, fun i hd => ?_⟩
    obtain ⟨t2', h2', _, words⟩ := run i hd
    cases h2.symm.trans h2'
    exact words
  cases hd : decode v with
  | reject r =>
    rw [writeCmd_reject idle1 hd] at h
    cases h
    exact ⟨_, writeCmd_reject idle2 hd, sameFlags_raise _ start1 start2⟩
  | ok i =>
    rcases instr_cases i with rfl | ⟨sh, tt, hbd, rfl, htt⟩ | ⟨c, rfl⟩
    · rw [writeCmd_ok idle1 hd] at h
      cases h
      exact ⟨_, writeCmd_ok idle2 hd, sameFlags_complete start1 start2⟩
    · rw [writeCmd_ok idle1 hd, exec_badType hbd _ htt] at h
      cases h
      exact ⟨_, (writeCmd_ok idle2 hd).trans (exec_badType hbd _ htt), sameFlags_raise _ start1 start2⟩
    · obtain ⟨t2, h2, flags, _⟩ := run c hd
      exact ⟨t2, h2, flags⟩

end Sys2Proof.Machine
end

section
/-! PROOFS, data memory and the operands (20_memory.md R41, R42, R44): the bytes of a little-endian number, that two adjoining stores
are one, and the signed value of an operand. -/

namespace Sys2Proof.Machine

/-! ### Little-endian data -/

/-- Byte `i` of a little-endian number. -/
theorem leBytes_getD {n i : Nat} (v : Nat) (hi : i < n) :
    (leBytes n v).getD i unlistedByte = BitVec.ofNat 8 (v / 2 ^ (8 * i)) := by
  induction n generalizing v i with
  | zero => omega
  | succ n ih =>
    cases i with
    | zero => simp [leBytes]
    | succ i =>
      rw [leBytes, List.getD_cons_succ, ih _ (by omega), Nat.div_div_eq_div_mul, Nat.mul_succ, Nat.pow_add, Nat.mul_comm]

theorem memRead_eq_sum (m : Memory) (a n : Nat) :
    memRead m a n = ∑ i ∈ Finset.range n, (readByte m (a + i)).toNat * 2 ^ (8 * i) := by
  induction n generalizing a with
  | zero => rfl
  | succ n ih =>
    rw [Finset.sum_range_succ', memRead, ih, Finset.mul_sum, Nat.add_comm]
    congr 1
    · refine Finset.sum_congr rfl fun i _ => ?_
      rw [Nat.add_right_comm, Nat.add_assoc a, Nat.mul_succ, Nat.pow_add]
      ring
    · simp

theorem readByte_memWrite (m : Memory) (a n v k : Nat) :
    readByte (memWrite m a n v) k = if a ≤ k ∧ k < a + n then BitVec.ofNat 8 (v / 2 ^ (8 * (k - a))) else readByte m k := by
  rw [memWrite, readByte_writeBytes, leBytes_length]
  split
  · exact leBytes_getD v (by omega)
  · rfl

theorem cells_append (a : Nat) (bs cs : List Byte) : cells a (bs ++ cs) = cells a bs ++ cells (a + bs.length) cs := by
  induction bs generalizing a with
  | nil => rfl
  | cons v bs ih =>
    have hshift : a + 1 + bs.length = a + (v :: bs).length := by rw [List.length_cons]; omega
    simp only [List.cons_append, cells, ih, hshift]
    split <;> rfl

theorem cells_bounds {a : Nat} {bs : List Byte} {x : Host.Cell} (h : x ∈ cells a bs) : a ≤ x.1 ∧ x.1 < a + bs.length :=
  mem_cells (List.mem_map.2 ⟨x, h, rfl⟩)

/-- What a store leaves below its end. -/
theorem writeBytes_filter_low (m : Memory) (a : Nat) (bs : List Byte) :
    (writeBytes m a bs).filter (fun x => decide (x.1 < a + bs.length)) = m.filter (fun x => decide (x.1 < a)) ++ cells a bs := by
  rw [writeBytes, List.filter_append, List.filter_append, List.filter_filter, List.filter_filter,
    List.filter_eq_self.2 fun x hx => decide_eq_true (cells_bounds hx).2]
  have habove : m.filter (fun x => decide (x.1 < a + bs.length) && decide (a + bs.length ≤ x.1)) = [] :=
    List.filter_eq_nil_iff.2 fun x _ => by simp
  have hbelow : m.filter (fun x => decide (x.1 < a + bs.length) && decide (x.1 < a)) = m.filter fun x => decide (x.1 < a) :=
    List.filter_congr fun x _ => by simp only [Bool.and_eq_right_iff_imp, decide_eq_true_eq]; omega
  rw [habove, hbelow, List.append_nil]

/-- What a store leaves from an address beyond its end on. -/
theorem writeBytes_filter_high (m : Memory) {a b : Nat} {bs : List Byte} (h : a + bs.length ≤ b) :
    (writeBytes m a bs).filter (fun x => decide (b ≤ x.1)) = m.filter fun x => decide (b ≤ x.1) := by
  have hbelow : m.filter (fun x => decide (b ≤ x.1) && decide (x.1 < a)) = [] :=
    List.filter_eq_nil_iff.2 fun x _ => by simp only [Bool.and_eq_true, decide_eq_true_eq]; omega
  have hcells : (cells a bs).filter (fun x => decide (b ≤ x.1)) = [] :=
    List.filter_eq_nil_iff.2 fun x hx => by have := cells_bounds hx; simp only [decide_eq_true_eq]; omega
  have habove : m.filter (fun x => decide (b ≤ x.1) && decide (a + bs.length ≤ x.1)) = m.filter fun x => decide (b ≤ x.1) :=
    List.filter_congr fun x _ => by simp only [Bool.and_eq_left_iff_imp, decide_eq_true_eq]; omega
  rw [writeBytes, List.filter_append, List.filter_append, List.filter_filter, List.filter_filter, hbelow, hcells, habove]
  rfl

/-- Two stores, the second where the first ends, are one store. -/
theorem writeBytes_append (m : Memory) (a : Nat) (bs cs : List Byte) :
    writeBytes (writeBytes m a bs) (a + bs.length) cs = writeBytes m a (bs ++ cs) := by
  rw [writeBytes, writeBytes_filter_low, writeBytes_filter_high m (Nat.le_add_right _ _), writeBytes, cells_append,
    List.length_append, Nat.add_assoc, List.append_assoc _ (cells a bs)]

/-- Settles O35: induction on the number of bytes read, the bytes of `leBytes`, and two adjoining stores of one byte each. -/
theorem littleEndian : Obligations.LittleEndian :=
  ⟨memRead_eq_sum, readByte_memWrite, fun m a v => writeBytes_append m a (leBytes 1 v) (leBytes 1 (v / 256))⟩

/-! ### Operands -/

/-- Settles O36: a narrow sample is sign-extended, which keeps its value. -/
theorem operandReads : Obligations.OperandReads := by
  refine ⟨fun m e hbd r c => ⟨rfl, ?_⟩, fun m e i => BitVec.toInt_ofNat ..⟩
  cases hbd with
  | false => exact (BitVec.toInt_signExtend_of_le (by decide)).trans (BitVec.toInt_ofNat ..)
  | true => exact BitVec.toInt_ofNat ..

end Sys2Proof.Machine
end

section
/-! PROOFS, the premises of a command with operands (20_memory.md R45 to R48, R55): its regions as spans are the bytes of R46, and each
premise that fails ends the command by its own name. -/

namespace Sys2Proof.Machine

/-! ### Alignment -/

theorem transfer_readBytes (i : MemCommand) (e : Engine) : (i.transfer e).readBytes = i.readSize := by
  cases i <;> rfl

theorem misaligned_iff (i : MemCommand) (e : Engine) :
    misaligned (i.transfer e) e = true ↔ e.src.toNat % i.readSize ≠ 0 ∨ e.dst.toNat % 4 ≠ 0 := by
  rw [misaligned, transfer_readBytes, Bool.or_eq_true, decide_eq_true_iff, decide_eq_true_iff]

theorem aligned_iff (i : MemCommand) (e : Engine) :
    misaligned (i.transfer e) e = false ↔ e.src.toNat % i.readSize = 0 ∧ e.dst.toNat % 4 = 0 := by
  rw [← Bool.not_eq_true, misaligned_iff, not_or, not_not, not_not]

/-- Settles O19: alignment is the first thing `perform` looks at. -/
theorem alignmentFault : Obligations.AlignmentFault := fun i s h =>
  ⟨(exec_memCommand i s).trans (perform_misaligned ((misaligned_iff i s.eng).2 h)), rfl⟩

/-! ### Spans and bytes -/

/-- Two spans meet when they share a byte: where they do, the later of the two starts is one. -/
theorem spansMeet_iff (x y : Span) : spansMeet x y = true ↔ ∃ a, x.has a ∧ y.has a := by
  simp only [spansMeet, decide_eq_true_eq, Span.has]
  exact ⟨fun h => ⟨max x.start y.start, by omega⟩, fun ⟨a, _, _⟩ => by omega⟩

theorem spanWraps_iff (x : Span) : spanWraps x = true ↔ Config.memBytes < x.start + x.len := decide_eq_true_iff

theorem spanWraps_eq_false_iff (x : Span) : spanWraps x = false ↔ x.start + x.len ≤ Config.memBytes :=
  decide_eq_false_iff_not.trans Nat.not_lt

/-- The bytes of the output words are those of the output span, when no address of one is reduced modulo `2^32`. -/
theorem outputByte_iff {i : MemCommand} {e : Engine} (hfit : e.dst.toNat + 4 * i.nout ≤ Config.memBytes) (a : Nat) :
    i.OutputByte e a ↔ (outSpan (i.transfer e) e).has a := by
  rw [MemCommand.OutputByte, outSpan, transfer_nout, Span.has]
  constructor
  · rintro ⟨k, j, hk, hj, rfl⟩
    rw [outAddr, Nat.mod_eq_of_lt (by omega)]
    dsimp only
    omega
  · rintro ⟨hlo, hhi⟩
    dsimp only at hlo hhi
    refine ⟨(a - e.dst.toNat) / 4, (a - e.dst.toNat) % 4, by omega, by omega, ?_⟩
    rw [outAddr, Nat.mod_eq_of_lt (by omega)]
    omega

/-- The address of a sample before its reduction, as row and column make it. -/
theorem sample_offset (e : Engine) (hbd : Bool) (r c : Nat) :
    e.src.toNat + (r * e.stride.toNat + c) * sampleBytes hbd =
      e.src.toNat + r * e.stride.toNat * sampleBytes hbd + c * sampleBytes hbd := by
  rw [Nat.add_mul, Nat.add_assoc]

/-- A row of a block wraps when its last sample does. -/
theorem blockTransfer_wraps_iff {w h : Nat} (hbd : Bool) (nout : Nat) (e : Engine) (hw : 0 < w) :
    (∃ r c, r < h ∧ c < w ∧
      Config.memBytes < e.src.toNat + (r * e.stride.toNat + c) * sampleBytes hbd + sampleBytes hbd) ↔
    ∃ x ∈ (blockTransfer w h hbd nout e).reads, spanWraps x = true := by
  simp only [blockTransfer, List.mem_map, List.mem_range, exists_exists_and_eq_and, spanWraps_iff, sample_offset]
  constructor
  · rintro ⟨r, c, hr, hc, hlt⟩
    have hlast : (c + 1) * sampleBytes hbd ≤ w * sampleBytes hbd := Nat.mul_le_mul_right _ hc
    rw [Nat.succ_mul] at hlast
    exact ⟨r, hr, by omega⟩
  · rintro ⟨r, hr, hlt⟩
    have hlast : w * sampleBytes hbd = (w - 1) * sampleBytes hbd + sampleBytes hbd := by
      rw [← Nat.succ_mul, Nat.succ_eq_add_one, Nat.sub_add_cancel hw]
    exact ⟨r, w - 1, hr, by omega, by omega⟩

/-- The bytes of the samples of a block are the bytes of its rows. -/
theorem blockTransfer_byte_iff {w h : Nat} {hbd : Bool} {nout : Nat} {e : Engine}
    (hfit : ∀ x ∈ (blockTransfer w h hbd nout e).reads, spanWraps x = false) (a : Nat) :
    (∃ r c j, r < h ∧ c < w ∧ j < sampleBytes hbd ∧ a = sampleAddr e hbd r c + j) ↔
      ∃ x ∈ (blockTransfer w h hbd nout e).reads, x.has a := by
  simp only [blockTransfer, List.mem_map, List.mem_range, forall_exists_index, and_imp, forall_apply_eq_imp_iff₂,
    exists_exists_and_eq_and, spanWraps_eq_false_iff, Span.has] at hfit ⊢
  have hpos : 0 < sampleBytes hbd := by cases hbd <;> decide
  have inside {c j : Nat} (hc : c < w) (hj : j < sampleBytes hbd) : c * sampleBytes hbd + j < w * sampleBytes hbd := by
    have hlast : (c + 1) * sampleBytes hbd ≤ w * sampleBytes hbd := Nat.mul_le_mul_right _ hc
    rw [Nat.succ_mul] at hlast
    omega
  constructor
  · rintro ⟨r, c, j, hr, hc, hj, rfl⟩
    have hrow := hfit r hr
    have hin := inside hc hj
    rw [sampleAddr, sample_offset, Nat.mod_eq_of_lt (by omega)]
    exact ⟨r, hr, by omega⟩
  · rintro ⟨r, hr, hlo, hhi⟩
    have hrow := hfit r hr
    obtain ⟨d, rfl⟩ := Nat.exists_eq_add_of_le hlo
    have hd := Nat.div_add_mod' d (sampleBytes hbd)
    have hcol : d / sampleBytes hbd < w := Nat.div_lt_of_lt_mul (Nat.mul_comm _ w ▸ by omega)
    refine ⟨r, d / sampleBytes hbd, d % sampleBytes hbd, hr, hcol, Nat.mod_lt _ hpos, ?_⟩
    rw [sampleAddr, sample_offset, Nat.mod_eq_of_lt (by omega)]
    omega

theorem shapeWidth_pos (sh : Shape) : 0 < shapeWidth sh := by
  cases sh <;> decide

/-- A region wraps as R47 says exactly when one of its spans does. -/
theorem wraps_iff (i : MemCommand) (e : Engine) :
    i.Wraps e ↔ ((i.transfer e).reads.any spanWraps || spanWraps (outSpan (i.transfer e) e)) = true := by
  rw [Bool.or_eq_true, List.any_eq_true, outSpan, transfer_nout, spanWraps_iff, or_comm]
  refine or_congr Iff.rfl ?_
  cases i with
  | block sh t hbd => exact blockTransfer_wraps_iff hbd _ e (shapeWidth_pos sh)
  | wht hbd => exact blockTransfer_wraps_iff hbd _ e (by decide)
  | vector k =>
    simp only [MemCommand.transfer, vectorTransfer, List.mem_singleton, exists_eq_left, spanWraps_iff]
    rfl

/-- The bytes of the input samples or words are those of the input spans, when none wraps. -/
theorem inputByte_iff {i : MemCommand} {e : Engine} (hfit : ∀ x ∈ (i.transfer e).reads, spanWraps x = false) (a : Nat) :
    i.InputByte e a ↔ ∃ x ∈ (i.transfer e).reads, x.has a := by
  cases i with
  | block sh t hbd => exact blockTransfer_byte_iff hfit a
  | wht hbd => exact blockTransfer_byte_iff hfit a
  | vector k =>
    simp only [MemCommand.transfer, vectorTransfer, List.mem_singleton, forall_eq, exists_eq_left,
      spanWraps_eq_false_iff, Span.has, MemCommand.InputByte] at hfit ⊢
    constructor
    · rintro ⟨i, j, hi, hj, rfl⟩
      rw [wordAddr, Nat.mod_eq_of_lt (by omega)]
      omega
    · rintro ⟨hlo, hhi⟩
      refine ⟨(a - e.src.toNat) / 4, (a - e.src.toNat) % 4, by omega, by omega, ?_⟩
      rw [wordAddr, Nat.mod_eq_of_lt (by omega)]
      omega

/-- What not wrapping says of the spans. -/
theorem not_wraps_iff (i : MemCommand) (e : Engine) :
    ¬ i.Wraps e ↔ (∀ x ∈ (i.transfer e).reads, spanWraps x = false) ∧ e.dst.toNat + 4 * i.nout ≤ Config.memBytes := by
  rw [wraps_iff, Bool.not_eq_true, Bool.or_eq_false_iff, List.any_eq_false, outSpan, transfer_nout,
    spanWraps_eq_false_iff]
  simp only [Bool.not_eq_true]

/-- Both regions share a byte as R47 says exactly when the output span meets an input span. -/
theorem shares_iff {i : MemCommand} {e : Engine} (h : ¬ i.Wraps e) :
    (∃ a, i.InputByte e a ∧ i.OutputByte e a) ↔ (i.transfer e).reads.any (spansMeet (outSpan (i.transfer e) e)) = true := by
  obtain ⟨hreads, hout⟩ := (not_wraps_iff i e).1 h
  simp only [List.any_eq_true, spansMeet_iff, inputByte_iff hreads, outputByte_iff hout]
  exact ⟨fun ⟨a, ⟨x, hx, hin⟩, ho⟩ => ⟨x, hx, a, ho, hin⟩, fun ⟨x, hx, a, ho, hin⟩ => ⟨a, ⟨x, hx, hin⟩, ho⟩⟩

/-! ### The premises on the regions -/

theorem regionRefusal_of_wraps {i : MemCommand} {s : State} (h : i.Wraps s.eng) :
    regionRefusal (i.transfer s.eng) s = some .regionWraps := by
  rw [regionRefusal, if_pos ((wraps_iff i s.eng).1 h)]

theorem regionRefusal_of_shares {i : MemCommand} {s : State} (h : ¬ i.Wraps s.eng)
    (hshare : ∃ a, i.InputByte s.eng a ∧ i.OutputByte s.eng a) :
    regionRefusal (i.transfer s.eng) s = some .regionsOverlap := by
  rw [regionRefusal, if_neg (mt (wraps_iff i s.eng).2 h), if_pos ((shares_iff h).1 hshare)]

theorem regionRefusal_of_apart {i : MemCommand} {s : State} (h : ¬ i.Wraps s.eng)
    (hapart : ¬ ∃ a, i.InputByte s.eng a ∧ i.OutputByte s.eng a) :
    regionRefusal (i.transfer s.eng) s =
      if s.window.any (conflicts (footprint (i.transfer s.eng) s)) then some .concurrentOverlap else none := by
  rw [regionRefusal, if_neg (mt (wraps_iff i s.eng).2 h), if_neg (mt (shares_iff h).2 hapart)]

/-- An aligned command is refused for its regions, and for nothing else. -/
theorem exec_refused_iff {i : MemCommand} {s : State} (halign : misaligned (i.transfer s.eng) s.eng = false) (r : Refusal) :
    exec i.instr s = .refused r ↔ regionRefusal (i.transfer s.eng) s = some r := by
  rw [exec_memCommand, perform, halign, if_neg Bool.false_ne_true]
  cases regionRefusal (i.transfer s.eng) s with
  | some q => simp
  | none =>
    dsimp only
    split_ifs <;> simp

/-- Settles O22: the two premises of R47 are the first two that `regionRefusal` looks at. -/
theorem regionsRefused : Obligations.RegionsRefused := by
  intro i s hsrc hdst
  have halign := (aligned_iff i s.eng).2 ⟨hsrc, hdst⟩
  rw [exec_refused_iff halign, exec_refused_iff halign]
  by_cases hwraps : i.Wraps s.eng
  · simp [hwraps, regionRefusal_of_wraps hwraps]
  · by_cases hshare : ∃ a, i.InputByte s.eng a ∧ i.OutputByte s.eng a
    · simp [hshare, regionRefusal_of_shares hwraps hshare]
    · rw [regionRefusal_of_apart hwraps hshare]
      split <;> simp [hwraps, hshare]

/-- When two commands conflict, byte by byte (R55). -/
theorem conflicts_iff (f g : Footprint) :
    conflicts f g = true ↔ f.host ≠ g.host ∧ f.host ∉ g.after ∧ ∃ a,
      (f.writes.has a ∧ (g.writes.has a ∨ ∃ x ∈ g.reads, x.has a)) ∨ (g.writes.has a ∧ ∃ x ∈ f.reads, x.has a) := by
  simp only [conflicts, Footprint.orderedBefore, Bool.and_eq_true, Bool.not_eq_true', Bool.or_eq_false_iff, Bool.or_eq_true,
    decide_eq_false_iff_not, List.any_eq_true, spansMeet_iff, and_assoc]
  refine and_congr_right' (and_congr_right' ⟨?_, ?_⟩)
  · rintro ((⟨a, hf, hg⟩ | ⟨x, hx, a, hf, hg⟩) | ⟨x, hx, a, hg, hf⟩)
    · exact ⟨a, .inl ⟨hf, .inl hg⟩⟩
    · exact ⟨a, .inl ⟨hf, .inr ⟨x, hx, hg⟩⟩⟩
    · exact ⟨a, .inr ⟨hg, x, hx, hf⟩⟩
  · rintro ⟨a, ⟨hf, hg | ⟨x, hx, hg⟩⟩ | ⟨hg, x, hx, hf⟩⟩
    · exact .inl (.inl ⟨a, hf, hg⟩)
    · exact .inl (.inr ⟨x, hx, a, hf, hg⟩)
    · exact .inr ⟨x, hx, a, hg, hf⟩

/-- Settles O23: of a command with good regions the window alone is left to look at. -/
theorem concurrentRefused : Obligations.ConcurrentRefused := by
  intro i s hsrc hdst hwraps hapart
  have hout := ((not_wraps_iff i s.eng).1 hwraps).2
  rw [exec_refused_iff ((aligned_iff i s.eng).2 ⟨hsrc, hdst⟩), regionRefusal_of_apart hwraps hapart]
  simp only [Option.ite_none_right_eq_some, and_true, List.any_eq_true, conflicts_iff, outputByte_iff hout]
  rfl

/-! ### Admission -/

/-- Settles O24: `perform` looks at the reads when the regions are good, at the writes when no budget fault is taken. -/
theorem notAdmittedStuck : Obligations.NotAdmittedStuck := by
  intro i s halign hregions
  rw [exec_memCommand, perform, halign, hregions, if_neg Bool.false_ne_true]
  refine ⟨fun ⟨a, ha, hno⟩ => ?_, fun hreads hbudget ⟨k, hk, hno⟩ => ?_⟩
  · have hreads : readsAdmitted (i.transfer s.eng) s = false :=
      List.all_eq_false.2 ⟨a, ha, by rw [transfer_readBytes, hno]; decide⟩
    simp only [hreads, Bool.false_eq_true, if_false]
  · have hwrites : writesAdmitted (i.transfer s.eng) s = false :=
      List.all_eq_false.2 ⟨k, List.mem_range.2 (transfer_nout i s.eng ▸ hk), by rw [hno]; decide⟩
    simp only [hreads, hbudget, hwrites, Bool.false_eq_true, if_true, if_false]

end Sys2Proof.Machine
end

section
/-! PROOFS, the frame of every command (20_memory.md R46, 60_exceptions.md R204, R212). -/

namespace Sys2Proof.Machine

/-! ### The reserved bits of STATUS -/

theorem setDone_reserved (st : Word) : setDone st &&& 0xFFFFFF0C#32 = st &&& 0xFFFFFF0C#32 := by
  rw [setDone, BitVec.and_or_distrib_right, show 1#32 &&& 0xFFFFFF0C#32 = 0#32 by decide, BitVec.or_zero]

theorem setFault_reserved (c : Cause) (st : Word) : setFault c st &&& 0xFFFFFF0C#32 = st &&& 0xFFFFFF0C#32 := by
  have hcause : (causeCode c).setWidth 32 <<< 4 &&& 0xFFFFFF0C#32 = 0#32 := by cases c <;> decide
  rw [setFault, BitVec.and_or_distrib_right, BitVec.and_or_distrib_right, hcause, show 2#32 &&& 0xFFFFFF0C#32 = 0#32 by decide,
    BitVec.or_zero, BitVec.or_zero, BitVec.and_assoc, BitVec.and_self]

/-! ### The frame of a command -/

/-- STATUS keeps its reserved bits, and FINFO changes with a fault only. -/
theorem Ran.flags {s s' : State} (h : Ran s s') :
    s'.eng.status &&& 0xFFFFFF0C#32 = s.eng.status &&& 0xFFFFFF0C#32 ∧ (s'.eng.run = .idle → s'.eng.finfo = s.eng.finfo) := by
  cases h with
  | faulted c e w seen =>
    have hstatus : e.status = s.eng.status := congrArg Visible.status seen
    exact ⟨hstatus ▸ setFault_reserved c e.status, fun hidle => nomatch hidle⟩
  | completed e w m seen stored =>
    have hstatus : e.status = s.eng.status := congrArg Visible.status seen
    exact ⟨hstatus ▸ setDone_reserved e.status, fun _ => congrArg Visible.finfo seen⟩

/-- A command leaves the admission, the queue, the current host and the last value read. -/
theorem Ran.hosts {s s' : State} (h : Ran s s') :
    s'.holes = s.holes ∧ s'.pending = s.pending ∧ s'.host = s.host ∧ s'.rdata = s.rdata := by
  cases h <;> exact ⟨rfl, rfl, rfl, rfl⟩

/-- A command without operands touches no memory. -/
theorem exec_mem_of_no_operands {i : Instr} {s s' : State} (hno : ∀ c : MemCommand, i ≠ c.instr) (h : exec i s = .next s') :
    s'.mem = s.mem := by
  rcases instr_cases i with rfl | ⟨sh, tt, hbd, rfl, htt⟩ | ⟨c, rfl⟩
  · cases h
    rfl
  · rw [exec_badType hbd s htt] at h
    cases h
    rfl
  · exact absurd rfl (hno c)

/-- A command with operands leaves memory alone or completes on an idle engine, with its output words stored inside the memory. -/
theorem exec_mem {i : MemCommand} {s s' : State} (h : exec i.instr s = .next s') :
    s'.mem = s.mem ∨ (s'.eng.run = s.eng.run ∧ s.eng.dst.toNat + 4 * i.nout ≤ Config.memBytes ∧
      s'.mem = writeWords s.mem s.eng.dst.toNat (i.work s.mem s.eng).words) := by
  rw [exec_memCommand] at h
  rcases perform_next h with ⟨_, rfl⟩ | ⟨_, _, _, _, _, rfl⟩ | ⟨_, hregions, _, _, _, rfl⟩
  · exact .inl rfl
  · exact .inl rfl
  · have hfit := outSpan_le_of_regionRefusal hregions
    rw [transfer_nout] at hfit
    exact .inr ⟨congrArg Visible.run (work_visible i s.mem s.eng).2, hfit, rfl⟩

/-- Settles O30: the words stored are the output region, and the rest is what `Ran` says of any command. -/
theorem commandFrame : Obligations.CommandFrame := by
  refine ⟨fun i s s' hidle h => ?_, fun i s s' h => ?_⟩
  · rcases exec_mem h with hmem | ⟨hrun, hfit, hmem⟩
    · exact ⟨fun a _ => by rw [hmem], fun _ => hmem⟩
    · refine ⟨fun a ha => ?_, fun hf => absurd (hf.symm.trans (hrun.trans hidle)) (by decide)⟩
      rw [outputByte_iff hfit, outSpan, transfer_nout, Span.has, ← work_words_length i s.mem s.eng] at ha
      rw [hmem, readByte_writeWords_outside _ _ _ _ ha]
  · have ran := exec_ran h
    obtain ⟨hstatus, hfinfo⟩ := ran.flags
    obtain ⟨hholes, hpending, hhost, hrdata⟩ := ran.hosts
    exact ⟨fun hno => exec_mem_of_no_operands hno h, ran.visible, hstatus, hfinfo, ran.lower, ran.upper, hholes, hpending, hhost,
      hrdata⟩

end Sys2Proof.Machine
end

section
/-! PROOFS, the hosts' own synchronisation (20_memory.md R55, R56; the model's form, log entry 9). -/

namespace Sys2Proof.Machine

/-- What host `a`'s signal for a token and host `b`'s wait for it make of a recorded command. -/
def Footprint.handOver (a b token : Nat) (g : Footprint) : Footprint :=
  let sent := if g.orderedBefore a then { g with tokens := token :: g.tokens } else g
  if token ∈ sent.tokens then { sent with after := b :: sent.after } else sent

theorem Footprint.orderedBefore_iff (g : Footprint) (h : Nat) : g.orderedBefore h = true ↔ h = g.host ∨ h ∈ g.after := by
  rw [Footprint.orderedBefore, Bool.or_eq_true, decide_eq_true_iff, decide_eq_true_iff]

/-- A signal and the wait for it update the recorded commands one by one. -/
theorem window_signal_wait {s s1 s2 : State} {a b token : Nat} (hsignal : hostStep ⟨a, .signal token⟩ s = .next s1)
    (hwait : hostStep ⟨b, .wait token⟩ s1 = .next s2) : s2.window = s.window.map (Footprint.handOver a b token) := by
  cases hsignal
  cases hwait
  exact List.map_map

/-- The command's regions and host stay. -/
theorem Footprint.handOver_same (a b token : Nat) (g : Footprint) :
    (g.handOver a b token).host = g.host ∧ (g.handOver a b token).reads = g.reads ∧ (g.handOver a b token).writes = g.writes := by
  unfold Footprint.handOver
  dsimp only
  split_ifs <;> exact ⟨rfl, rfl, rfl⟩

/-- The hand-over orders before `b` the commands that were ordered before `a` or travelled with the token already, and adds no
other order. -/
theorem Footprint.handOver_orderedBefore (a b token : Nat) (g : Footprint) (h : Nat) :
    (g.handOver a b token).orderedBefore h = true ↔
      g.orderedBefore h = true ∨ (h = b ∧ (g.orderedBefore a = true ∨ token ∈ g.tokens)) := by
  unfold Footprint.handOver
  cases hord : g.orderedBefore a with
  | true => simp [Footprint.orderedBefore_iff, or_left_comm, or_comm]
  | false => by_cases ht : token ∈ g.tokens <;> simp [Footprint.orderedBefore_iff, ht, or_left_comm, or_comm]

/-- Settles O60: a hand-over works on every recorded command alone. -/
theorem hostSynchronisation : Obligations.HostSynchronisation := by
  refine ⟨fun s h token act hact => ?_, fun s s1 s2 a b token hsignal hwait => ?_⟩
  · rcases hact with rfl | rfl | rfl
    · exact ⟨_, rfl, rfl, fun _ => rfl⟩
    · exact ⟨_, rfl, rfl, fun hsync => nomatch hsync⟩
    · exact ⟨_, rfl, rfl, fun hsync => nomatch hsync⟩
  · rw [window_signal_wait hsignal hwait]
    refine ⟨fun g hg hord => ?_, List.length_map _, fun k g g' hg hg' h hord => ?_⟩
    · obtain ⟨hhost, hreads, hwrites⟩ := g.handOver_same a b token
      exact ⟨g.handOver a b token, List.mem_map_of_mem hg, hhost, hreads, hwrites,
        (g.handOver_orderedBefore a b token b).2 (.inr ⟨rfl, .inl hord⟩),
        fun h hh => (g.handOver_orderedBefore a b token h).2 (.inl hh)⟩
    · rw [List.getElem?_map, hg] at hg'
      cases hg'
      exact (g.handOver_orderedBefore a b token h).1 hord

end Sys2Proof.Machine
end

section
/-! PROOFS, two concurrent commands in either order (20_memory.md R55, R53). What a write of CMD does is an `Effect`, which it has at every
state that agrees on the engine, the admission and the bytes read and whose recorded commands it does not conflict with; the
effects of commands that do not conflict commute. -/

namespace Sys2Proof.Machine

/-! ### Stores that do not meet -/

theorem writeWords_nil {m : Memory} {a : Nat} (hm : m.wf = true) (ha : a ≤ Config.memBytes) : writeWords m a [] = m :=
  Memory.ext_of_wf _ _ (writeWords_wf m a [] hm ha) hm fun k =>
    readByte_writeWords_outside m a k [] fun ⟨hlo, hhi⟩ => Nat.not_lt.2 hlo hhi

theorem readByte_writeWords_inside (m m' : Memory) {a k : Nat} {ws : List Lane} (h : a ≤ k ∧ k < a + 4 * ws.length) :
    readByte (writeWords m a ws) k = readByte (writeWords m' a ws) k := by
  rw [writeWords, writeWords, readByte_writeBytes, readByte_writeBytes, wordBytes_length, if_pos h, if_pos h]

/-- Stores to two runs of words without a common byte can be taken in either order. -/
theorem writeWords_comm {m : Memory} {a b : Nat} {ws vs : List Lane} (hm : m.wf = true)
    (hws : a + 4 * ws.length ≤ Config.memBytes) (hvs : b + 4 * vs.length ≤ Config.memBytes)
    (hapart : ∀ k, a ≤ k ∧ k < a + 4 * ws.length → ¬ (b ≤ k ∧ k < b + 4 * vs.length)) :
    writeWords (writeWords m a ws) b vs = writeWords (writeWords m b vs) a ws := by
  refine Memory.ext_of_wf _ _ (writeWords_wf _ _ _ (writeWords_wf _ _ _ hm hws) hvs)
    (writeWords_wf _ _ _ (writeWords_wf _ _ _ hm hvs) hws) fun k => ?_
  by_cases hk : a ≤ k ∧ k < a + 4 * ws.length
  · rw [readByte_writeWords_outside _ _ _ _ (hapart k hk)]
    exact readByte_writeWords_inside _ _ hk
  · rw [readByte_writeWords_outside _ a k ws hk]
    by_cases hk' : b ≤ k ∧ k < b + 4 * vs.length
    · exact readByte_writeWords_inside _ _ hk'
    · rw [readByte_writeWords_outside _ _ _ _ hk', readByte_writeWords_outside _ _ _ _ hk, readByte_writeWords_outside _ _ _ _ hk']

/-! ### The work of a command in another memory -/

/-- What a command computes is the same in every memory that holds its input bytes. -/
theorem work_congr_mem {m m' : Memory} {e : Engine} (i : MemCommand) (hbytes : ∀ a, i.InputByte e a → readByte m a = readByte m' a) :
    i.work m e = i.work m' e := by
  cases i with
  | block sh t hbd =>
    have hblock : shapeBlock sh t hbd m e = shapeBlock sh t hbd m' e :=
      condition_congr _ fun r c hr hc => sample_congr rfl fun j hj => hbytes _ ⟨r, c, j, hr, hc, hj, rfl⟩
    rw [MemCommand.work, MemCommand.work, hblock]
  | wht hbd =>
    have hblock : whtBlock hbd m e = whtBlock hbd m' e :=
      whtBlock_congr fun r c hr hc => sample_congr rfl fun j hj => hbytes _ ⟨r, c, j, hr, hc, hj, rfl⟩
    rw [MemCommand.work, MemCommand.work, hblock]
  | vector k =>
    have hvector : inputVector (kernelLen k) m e = inputVector (kernelLen k) m' e :=
      List.map_congr_left fun i hi => inputWord_congr rfl fun j hj => hbytes _ ⟨i, j, List.mem_range.1 hi, hj, rfl⟩
    rw [MemCommand.work, MemCommand.work, hvector]

/-! ### Effects -/

/-- What one command does: the engine after it, the record of its regions if it came to reading memory, and the words it stores
from `dst` on. -/
structure Effect where
  eng : Engine
  record : List Footprint
  dst : Nat
  words : List Lane

/-- The state after the effect on the current engine. -/
def Effect.on (f : Effect) (s : State) : State :=
  { s with eng := f.eng, window := f.record ++ s.window, mem := writeWords s.mem f.dst f.words }

/-- The effect of a command of host `h`: it stores inside the memory and in the output region it records, in its host's name, ordered
before no other. -/
structure Effect.Legal (h : Nat) (f : Effect) : Prop where
  fits : f.dst + 4 * f.words.length ≤ Config.memBytes
  declared : ∀ a, f.dst ≤ a ∧ a < f.dst + 4 * f.words.length → ∃ g ∈ f.record, g.writes.has a
  recorded : ∀ g ∈ f.record, g.host = h ∧ g.after = []

/-- The effect does not conflict with the commands that the state has recorded. -/
def Effect.Free (f : Effect) (s : State) : Prop := ∀ g ∈ f.record, ∀ w ∈ s.window, conflicts g w = false

/-- What a state `u` shares with `s` so that a command of the same host on the same engine does there what it does at `s`. -/
structure Effect.Applies (f : Effect) (s u : State) : Prop where
  holes : u.holes = s.holes
  wf : u.mem.wf = true
  free : f.Free u
  reads : ∀ g ∈ f.record, ∀ x ∈ g.reads, ∀ a, x.has a → readByte u.mem a = readByte s.mem a

/-- The operation on the current engine has effect `f` at `s`, and wherever the effect applies. -/
structure HasEffect (act : State → Host.Outcome State Fault Refusal) (s : State) (f : Effect) : Prop where
  legal : f.Legal s.host
  free : f.Free s
  run : ∀ u, u.eng = s.eng → u.host = s.host → f.Applies s u → act u = .next (f.on u)

/-- The effect on the engine alone. -/
def Effect.ofEngine (e : Engine) : Effect := { eng := e, record := [], dst := 0, words := [] }

theorem hasEffect_ofEngine {act : State → Host.Outcome State Fault Refusal} {s : State} (e : Engine)
    (h : ∀ u, u.eng = s.eng → act u = .next { u with eng := e }) : HasEffect act s (.ofEngine e) where
  legal :=
    { fits := Nat.zero_le _
      declared := fun _ ha => absurd ha.2 (Nat.not_lt.2 ha.1)
      recorded := fun _ hg => nomatch hg }
  free := fun _ hg => nomatch hg
  run := fun u heng _ hu => by
    rw [h u heng, Effect.on, Effect.ofEngine, writeWords_nil hu.wf (Nat.zero_le _)]
    rfl

/-! ### The effect of a command with operands -/

theorem regionRefusal_eq_none_iff (i : MemCommand) (s : State) :
    regionRefusal (i.transfer s.eng) s = none ↔ ¬ i.Wraps s.eng ∧ (¬ ∃ a, i.InputByte s.eng a ∧ i.OutputByte s.eng a) ∧
      ∀ w ∈ s.window, conflicts (footprint (i.transfer s.eng) s) w = false := by
  by_cases hwraps : i.Wraps s.eng
  · simp [regionRefusal_of_wraps hwraps, hwraps]
  · by_cases hshare : ∃ a, i.InputByte s.eng a ∧ i.OutputByte s.eng a
    · simp [regionRefusal_of_shares hwraps hshare, hshare]
    · rw [regionRefusal_of_apart hwraps hshare]
      simp [hwraps, hshare]

/-- The regions, the premises on them and the work are those at `s`, wherever an effect that records the command applies. -/
theorem Effect.Applies.command {f : Effect} {i : MemCommand} {s u : State} (hu : f.Applies s u) (heng : u.eng = s.eng)
    (hhost : u.host = s.host) (hrecord : f.record = [footprint (i.transfer s.eng) s])
    (hregions : regionRefusal (i.transfer s.eng) s = none) :
    footprint (i.transfer u.eng) u = footprint (i.transfer s.eng) s ∧ regionRefusal (i.transfer u.eng) u = none ∧
      i.work u.mem u.eng = i.work s.mem s.eng := by
  obtain ⟨hwraps, hapart, _⟩ := (regionRefusal_eq_none_iff i s).1 hregions
  have hmem : footprint (i.transfer s.eng) s ∈ f.record := by rw [hrecord]; exact List.mem_singleton_self _
  have hprint : footprint (i.transfer u.eng) u = footprint (i.transfer s.eng) s := by rw [footprint, footprint, heng, hhost]
  rw [regionRefusal_eq_none_iff, hprint, heng]
  refine ⟨rfl, ⟨hwraps, hapart, hu.free _ hmem⟩, work_congr_mem i fun a ha => ?_⟩
  obtain ⟨x, hx, hin⟩ := (inputByte_iff ((not_wraps_iff i s.eng).1 hwraps).1 a).1 ha
  exact hu.reads _ hmem x hx a hin

/-- A budget fault does not ask whether the writes would have been admitted (log entry 6). -/
theorem perform_budgetFault {t : Transfer} {work : Memory → Engine → Work} {s : State} (halign : misaligned t s.eng = false)
    (hregions : regionRefusal t s = none) (hreads : readsAdmitted t s = true) (hviol : (work s.mem s.eng).computed.viol = true)
    (hchecks : debugChecks s.eng = true) :
    perform t work s = .next (raise .rangeBudget { recordFootprint t s with eng := (work s.mem s.eng).computed }) := by
  rw [perform, halign, hregions, hreads, hviol, hchecks]
  rfl

/-- The effect of a command that faults RANGE_BUDGET. -/
def Effect.ofBudgetFault (i : MemCommand) (s : State) : Effect where
  eng := (raise .rangeBudget { s with eng := (i.work s.mem s.eng).computed }).eng
  record := [footprint (i.transfer s.eng) s]
  dst := 0
  words := []

/-- The effect of a command that completes. -/
def Effect.ofCompletion (i : MemCommand) (s : State) : Effect where
  eng := (complete { s with eng := (i.work s.mem s.eng).finished }).eng
  record := [footprint (i.transfer s.eng) s]
  dst := s.eng.dst.toNat
  words := (i.work s.mem s.eng).words

theorem footprint_recorded (t : Transfer) (s : State) : ∀ g ∈ [footprint t s], g.host = s.host ∧ g.after = [] :=
  List.forall_mem_singleton.2 ⟨rfl, rfl⟩

theorem hasEffect_budgetFault {i : MemCommand} {s : State} (halign : misaligned (i.transfer s.eng) s.eng = false)
    (hregions : regionRefusal (i.transfer s.eng) s = none) (hreads : readsAdmitted (i.transfer s.eng) s = true)
    (hviol : (i.work s.mem s.eng).computed.viol = true) (hchecks : debugChecks s.eng = true) :
    HasEffect (exec i.instr) s (.ofBudgetFault i s) where
  legal :=
    { fits := Nat.zero_le _
      declared := fun _ ha => absurd ha.2 (Nat.not_lt.2 ha.1)
      recorded := footprint_recorded _ s }
  free := List.forall_mem_singleton.2 ((regionRefusal_eq_none_iff i s).1 hregions).2.2
  run := fun u heng hhost hu => by
    obtain ⟨hprint, hregions', hwork⟩ := hu.command heng hhost rfl hregions
    have hreads' : readsAdmitted (i.transfer u.eng) u = true := by rw [readsAdmitted, heng, hu.holes]; exact hreads
    rw [exec_memCommand, perform_budgetFault (heng ▸ halign) hregions' hreads' (hwork ▸ hviol) (heng ▸ hchecks), Effect.on,
      Effect.ofBudgetFault, writeWords_nil hu.wf (Nat.zero_le _), recordFootprint, hprint, hwork]
    rfl

theorem hasEffect_completion {i : MemCommand} {s : State} (ready : Ready (i.transfer s.eng) s)
    (hbudget : ((i.work s.mem s.eng).computed.viol && debugChecks s.eng) = false) :
    HasEffect (exec i.instr) s (.ofCompletion i s) where
  legal :=
    { fits := by
        have hfit := outSpan_le_of_regionRefusal ready.regions
        rwa [transfer_nout, ← work_words_length i s.mem s.eng] at hfit
      declared := fun a ha => ⟨footprint (i.transfer s.eng) s, List.mem_singleton_self _, by
        rwa [footprint, outSpan, transfer_nout, ← work_words_length i s.mem s.eng]⟩
      recorded := footprint_recorded _ s }
  free := List.forall_mem_singleton.2 ((regionRefusal_eq_none_iff i s).1 ready.regions).2.2
  run := fun u heng hhost hu => by
    obtain ⟨hprint, hregions', hwork⟩ := hu.command heng hhost rfl ready.regions
    have ready' : Ready (i.transfer u.eng) u :=
      { aligned := heng ▸ ready.aligned
        regions := hregions'
        reads := by rw [readsAdmitted, heng, hu.holes]; exact ready.reads
        writes := by rw [writesAdmitted, heng, hu.holes]; exact ready.writes }
    rw [exec_memCommand, perform_ready ready' (by rw [hwork, heng]; exact hbudget), recordFootprint, hprint, hwork, heng]
    rfl

/-- Every next state of a command with operands is an effect. -/
theorem exec_operands_effect {i : MemCommand} {s s' : State} (h : exec i.instr s = .next s') : ∃ f, HasEffect (exec i.instr) s f := by
  rw [exec_memCommand] at h
  rcases perform_next h with ⟨halign, _⟩ | ⟨halign, hregions, hreads, hviol, hchecks, _⟩ |
    ⟨halign, hregions, hreads, hwrites, hbudget, _⟩
  · refine ⟨_, hasEffect_ofEngine (raise .operandAlign s).eng fun u heng => ?_⟩
    rw [exec_memCommand, perform_misaligned (heng ▸ halign), raise, raise, heng]
  · exact ⟨_, hasEffect_budgetFault halign hregions hreads hviol hchecks⟩
  · exact ⟨_, hasEffect_completion ⟨halign, hregions, hreads, hwrites⟩ hbudget⟩

/-- Every next state of a write of CMD is an effect on the current engine. -/
theorem writeCmd_effect {v : Word} {s s' : State} (h : writeCmd v s = .next s') : ∃ f, HasEffect (writeCmd v) s f := by
  cases hrun : s.eng.run with
  | faulted =>
    exact ⟨_, hasEffect_ofEngine s.eng fun u heng => by rw [writeCmd_faulted (heng ▸ hrun), ← heng]⟩
  | idle =>
    cases hd : decode v with
    | reject r =>
      refine ⟨_, hasEffect_ofEngine (raise .illegalEntry (startCommand v s)).eng fun u heng => ?_⟩
      rw [writeCmd_reject (heng ▸ hrun) hd, startCommand, startCommand, heng]
      rfl
    | ok i =>
      rcases instr_cases i with rfl | ⟨sh, tt, hbd, rfl, htt⟩ | ⟨c, rfl⟩
      · refine ⟨_, hasEffect_ofEngine (complete (startCommand v s)).eng fun u heng => ?_⟩
        rw [writeCmd_ok (heng ▸ hrun) hd, startCommand, startCommand, heng]
        rfl
      · refine ⟨_, hasEffect_ofEngine (raise .txtypeRange (startCommand v s)).eng fun u heng => ?_⟩
        rw [writeCmd_ok (heng ▸ hrun) hd, exec_badType hbd _ htt, startCommand, startCommand, heng]
        rfl
      · obtain ⟨f, hf⟩ := exec_operands_effect (writeCmd_ok hrun hd ▸ h)
        refine ⟨f, hf.legal, hf.free, fun u heng hhost hu => ?_⟩
        rw [writeCmd_ok (heng ▸ hrun) hd]
        exact hf.run (startCommand v u) (by rw [startCommand, startCommand, heng]) hhost ⟨hu.holes, hu.wf, hu.free, hu.reads⟩

/-! ### The effect of a host's action -/

/-- The effect on engine `e` of the whole system. -/
structure Effect.Took (f : Effect) (e : Nat) (s s' : State) : Prop where
  engines : s'.engines = s.engines.set e f.eng
  mem : s'.mem = writeWords s.mem f.dst f.words
  window : s'.window = f.record ++ s.window
  holes : s'.holes = s.holes
  pending : s'.pending = s.pending
  rdata : s'.rdata = s.rdata

theorem Effect.took_on {f : Effect} {e h : Nat} {s t : State} (hf : focus e { s with host := h } = some t) : f.Took e s (f.on t) := by
  obtain ⟨hengines, hindex, _, hmem, hholes, hpending, _, hwindow, hrdata⟩ := focus_some hf
  have hset := engines_set t (f.on t) rfl rfl
  rw [hindex, hengines] at hset
  exact ⟨hset, congrArg (writeWords · f.dst f.words) hmem, congrArg (f.record ++ ·) hwindow, hholes, hpending, hrdata⟩

/-- The action has effect `f` on engine `e`, at `s` and wherever the effect applies. -/
structure StepEffect (op : HostOp) (e : Nat) (s : State) (f : Effect) : Prop where
  legal : f.Legal op.host
  free : f.Free s
  run : ∀ u, u.engines[e]? = s.engines[e]? → f.Applies s u → ∃ u', hostStep op u = .next u' ∧ f.Took e u u'

theorem hostStep_writeCmd {op : HostOp} {e : Nat} {v : Word} {s t : State} (hop : op.act = .regWrite e 0x10 4 v)
    (hf : focus e { s with host := op.host } = some t) : hostStep op s = writeCmd v t := by
  rw [hostStep, hop, hostAction_writeCmd hf]

/-- Every next state of a write of CMD is an effect on the engine it addresses. -/
theorem hostStep_effect {op : HostOp} {e : Nat} {v : Word} {s s' : State} (hop : op.act = .regWrite e 0x10 4 v)
    (h : hostStep op s = .next s') : ∃ f, StepEffect op e s f := by
  rw [hostStep, hop, hostAction] at h
  obtain ⟨t, hf, hwrite⟩ := onEngine_next h
  obtain ⟨f, hfx⟩ := writeCmd_effect (v := v) hwrite
  obtain ⟨_, _, heng, hmem, hholes, _, hhost, hwindow, _⟩ := focus_some hf
  have hname : t.host = op.host := hhost
  refine ⟨f, hname ▸ hfx.legal, fun g hg w hw => hfx.free g hg w (hwindow ▸ hw), fun u hsame hu => ?_⟩
  have hsome : (focus e { u with host := op.host }).isSome = true := by
    rw [focus_isSome]
    exact (List.getElem?_eq_some_iff.1 (hsame.trans heng)).1
  obtain ⟨t', hf'⟩ := Option.isSome_iff_exists.1 hsome
  obtain ⟨_, _, heng', hmem', hholes', _, hhost', hwindow', _⟩ := focus_some hf'
  refine ⟨f.on t', ?_, Effect.took_on hf'⟩
  rw [hostStep_writeCmd hop hf']
  refine hfx.run t' (Option.some_injective _ (heng'.symm.trans (hsame.trans heng))) (hhost'.trans hname.symm) ⟨?_, ?_, ?_, ?_⟩
  · exact hholes'.trans (hu.holes.trans hholes.symm)
  · exact hmem' ▸ hu.wf
  · exact fun g hg w hw => hu.free g hg w (hwindow' ▸ hw)
  · intro g hg x hx a ha
    rw [hmem', hmem]
    exact hu.reads g hg x hx a ha

theorem StepEffect.took {op : HostOp} {e : Nat} {s s' : State} {f : Effect} (hf : StepEffect op e s f) (hwf : s.mem.wf = true)
    (h : hostStep op s = .next s') : f.Took e s s' := by
  obtain ⟨t, ht, took⟩ := hf.run s rfl ⟨rfl, hwf, hf.free, fun _ _ _ _ _ _ => rfl⟩
  cases h.symm.trans ht
  exact took

theorem Effect.Took.wf {f : Effect} {e h : Nat} {s s' : State} (took : f.Took e s s') (legal : f.Legal h) (hwf : s.mem.wf = true) :
    s'.mem.wf = true := by
  rw [took.mem]
  exact writeWords_wf _ _ _ hwf legal.fits

/-! ### Effects that commute -/

/-- Neither effect writes a byte that the other reads or writes. -/
def Effect.Apart (f g : Effect) : Prop :=
  ∀ x ∈ f.record, ∀ y ∈ g.record, ∀ a, (x.writes.has a → ¬ y.writes.has a ∧ ∀ z ∈ y.reads, ¬ z.has a) ∧
    (y.writes.has a → ∀ z ∈ x.reads, ¬ z.has a)

/-- Commands of different hosts that do not conflict are apart. -/
theorem Effect.apart_of_not_conflicts {f g : Effect} {h k : Nat} (lf : f.Legal h) (lg : g.Legal k) (hne : h ≠ k)
    (hno : ∀ x ∈ f.record, ∀ y ∈ g.record, conflicts x y = false) : f.Apart g := by
  intro x hx y hy a
  obtain ⟨hxhost, _⟩ := lf.recorded x hx
  obtain ⟨hyhost, hyafter⟩ := lg.recorded y hy
  have hfree : ¬ conflicts x y = true := by rw [hno x hx y hy]; exact Bool.false_ne_true
  rw [conflicts_iff, hxhost, hyhost, hyafter] at hfree
  have none (hbad : (x.writes.has a ∧ (y.writes.has a ∨ ∃ z ∈ y.reads, z.has a)) ∨ (y.writes.has a ∧ ∃ z ∈ x.reads, z.has a)) :
      False := hfree ⟨hne, List.not_mem_nil, a, hbad⟩
  exact ⟨fun hw => ⟨fun hw' => none (.inl ⟨hw, .inl hw'⟩), fun z hz hr => none (.inl ⟨hw, .inr ⟨z, hz, hr⟩⟩)⟩,
    fun hw z hz hr => none (.inr ⟨hw, z, hz, hr⟩)⟩

theorem Effect.Apart.symm {f g : Effect} (h : f.Apart g) : g.Apart f := fun y hy x hx a =>
  ⟨fun hw => ⟨fun hw' => ((h x hx y hy a).1 hw').1 hw, (h x hx y hy a).2 hw⟩, fun hw => ((h x hx y hy a).1 hw).2⟩

theorem Effect.Apart.not_conflicts {f g : Effect} (h : f.Apart g) {x y : Footprint} (hx : x ∈ f.record) (hy : y ∈ g.record) :
    conflicts x y = false := by
  rw [← Bool.not_eq_true, conflicts_iff]
  rintro ⟨_, _, a, ⟨hw, hw' | ⟨z, hz, hr⟩⟩ | ⟨hw, z, hz, hr⟩⟩
  · exact ((h x hx y hy a).1 hw).1 hw'
  · exact ((h x hx y hy a).1 hw).2 z hz hr
  · exact (h x hx y hy a).2 hw z hz hr

/-- The store of one leaves the bytes the other reads. -/
theorem Effect.Apart.reads {f g : Effect} {h : Nat} (hfg : f.Apart g) (lf : f.Legal h) (m : Memory) {y : Footprint}
    (hy : y ∈ g.record) {z : Span} (hz : z ∈ y.reads) {a : Nat} (ha : z.has a) :
    readByte (writeWords m f.dst f.words) a = readByte m a := by
  refine readByte_writeWords_outside _ _ _ _ fun hin => ?_
  obtain ⟨x, hx, hw⟩ := lf.declared a hin
  exact ((hfg x hx y hy a).1 hw).2 z hz ha

/-- The stores of both can be taken in either order. -/
theorem Effect.Apart.stores {f g : Effect} {h k : Nat} (hfg : f.Apart g) (lf : f.Legal h) (lg : g.Legal k) {m : Memory}
    (hm : m.wf = true) :
    writeWords (writeWords m f.dst f.words) g.dst g.words = writeWords (writeWords m g.dst g.words) f.dst f.words := by
  refine writeWords_comm hm lf.fits lg.fits fun a ha hb => ?_
  obtain ⟨x, hx, hw⟩ := lf.declared a ha
  obtain ⟨y, hy, hw'⟩ := lg.declared a hb
  exact ((hfg x hx y hy a).1 hw).1 hw'

/-- Settles O34: the second command has its effect before the first one too, the first has its effect after it, and the two
effects commute. -/
theorem interleaving : Obligations.Interleaving := by
  intro s s1 s2 a b ea eb va vb hacta hactb hengines hhosts hwf h1 h2
  obtain ⟨f, hf⟩ := hostStep_effect hacta h1
  obtain ⟨g, hg⟩ := hostStep_effect hactb h2
  have took1 := hf.took hwf h1
  have took2 := hg.took (took1.wf hf.legal hwf) h2
  have hapart : g.Apart f := Effect.apart_of_not_conflicts hg.legal hf.legal hhosts.symm fun y hy x hx =>
    hg.free y hy x (by rw [took1.window]; exact List.mem_append_left _ hx)
  have first : g.Applies s1 s :=
    { holes := took1.holes.symm
      wf := hwf
      free := fun y hy w hw => hg.free y hy w (by rw [took1.window]; exact List.mem_append_right _ hw)
      reads := fun y hy z hz c hc => by rw [took1.mem, hapart.symm.reads hf.legal s.mem hy hz hc] }
  obtain ⟨t1, ht1, tookb⟩ := hg.run s (by rw [took1.engines, List.getElem?_set_ne hengines]) first
  have second : f.Applies s t1 :=
    { holes := tookb.holes
      wf := tookb.wf hg.legal hwf
      free := fun x hx w hw => by
        rw [tookb.window] at hw
        rcases List.mem_append.1 hw with hw | hw
        · exact hapart.symm.not_conflicts hx hw
        · exact hf.free x hx w hw
      reads := fun x hx z hz c hc => by rw [tookb.mem, hapart.reads hg.legal s.mem hx hz hc] }
  obtain ⟨t2, ht2, tooka⟩ := hf.run t1 (by rw [tookb.engines, List.getElem?_set_ne hengines.symm]) second
  refine ⟨t1, t2, ht1, ht2, ?_, ?_, ?_, ?_, ?_, fun w => ?_⟩
  · rw [tooka.engines, tookb.engines, took2.engines, took1.engines, List.set_comm _ _ hengines]
  · rw [tooka.mem, tookb.mem, took2.mem, took1.mem, hapart.stores hg.legal hf.legal hwf]
  · rw [tooka.rdata, tookb.rdata, took2.rdata, took1.rdata]
  · rw [tooka.holes, tookb.holes, took2.holes, took1.holes]
  · rw [tooka.pending, tookb.pending, took2.pending, took1.pending]
  · simp only [tooka.window, tookb.window, took2.window, took1.window, List.mem_append, or_left_comm]

end Sys2Proof.Machine
end

section
/-! PROOFS, decoding and encoding (30_encoding.md R65 to R70, R77): the fields of a command word as numbers, the word that four fields
make, what each branch of the decoder answers, and that decoding and encoding are inverse to each other. -/

namespace Sys2Proof.Machine

/-! ### The fields of a word are numbers (R65) -/

theorem toNat_fieldReserved (v : Word) : (fieldReserved v).toNat = wReserved v := by
  have hlt := v.isLt
  rw [fieldReserved, wReserved, BitVec.extractLsb'_toNat, Nat.shiftRight_eq_div_pow, Nat.mod_eq_of_lt (by omega)]

theorem toNat_fieldOpc (v : Word) : (fieldOpc v).toNat = wOpc v := by
  rw [fieldOpc, wOpc, BitVec.extractLsb'_toNat, Nat.shiftRight_eq_div_pow]

theorem toNat_fieldSel (v : Word) : (fieldSel v).toNat = wSel v := by
  rw [fieldSel, wSel, BitVec.extractLsb'_toNat, Nat.shiftRight_eq_div_pow]

theorem toNat_fieldTxType (v : Word) : (fieldTxType v).toNat = wTxType v := by
  rw [fieldTxType, wTxType, BitVec.extractLsb'_toNat, Nat.shiftRight_zero]

theorem fieldTxType_eq (v : Word) : fieldTxType v = BitVec.ofNat 8 (wTxType v) := by
  rw [← toNat_fieldTxType, BitVec.ofNat_toNat, BitVec.setWidth_eq]

theorem fieldHbd_eq (v : Word) : fieldHbd v = decide (wHbd v = 1) := by
  rw [fieldHbd, wHbd, BitVec.getLsbD, Nat.testBit_eq_decide_div_mod_eq]

theorem ne_zero_iff_toNat {n : Nat} (x : BitVec n) : x ≠ 0 ↔ x.toNat ≠ 0 := by
  rw [BitVec.toNat_ne]
  rfl

theorem fieldReserved_ne_zero (v : Word) : fieldReserved v ≠ 0 ↔ wReserved v ≠ 0 := by
  rw [ne_zero_iff_toNat, toNat_fieldReserved]

theorem fieldSel_ne_zero (v : Word) : fieldSel v ≠ 0 ↔ wSel v ≠ 0 := by
  rw [ne_zero_iff_toNat, toNat_fieldSel]

theorem fieldTxType_ne_zero (v : Word) : fieldTxType v ≠ 0 ↔ wTxType v ≠ 0 := by
  rw [ne_zero_iff_toNat, toNat_fieldTxType]

theorem fieldHbd_eq_true (v : Word) : fieldHbd v = true ↔ wHbd v ≠ 0 := by
  rw [fieldHbd_eq, decide_eq_true_iff, wHbd]
  omega

theorem wOpc_lt (v : Word) : wOpc v < 16 := Nat.mod_lt _ (by decide)

theorem wSel_lt (v : Word) : wSel v < 256 := Nat.mod_lt _ (by decide)

theorem toNat_decide_wHbd (v : Word) : (decide (wHbd v = 1)).toNat = wHbd v := by
  have hlt : wHbd v < 2 := Nat.mod_lt _ (by decide)
  interval_cases wHbd v <;> rfl

/-! ### The word that four fields make (R77) -/

theorem toNat_assemble (hbd : Bool) {opc sel : Nat} (tt : BitVec 8) (hopc : opc < 16) (hsel : sel < 256) :
    (assemble hbd opc sel tt).toNat = hbd.toNat * 2 ^ 20 + (opc * 2 ^ 16 + (sel * 2 ^ 8 + tt.toNat)) := by
  have hhbd := hbd.toNat_lt
  have htt := tt.isLt
  have hfield {a i : Nat} (h : a * 2 ^ i < 2 ^ 32) : (a % 2 ^ 32) <<< i % 2 ^ 32 = a <<< i := by
    rw [Nat.shiftLeft_eq, Nat.shiftLeft_eq, Nat.mod_mul_mod, Nat.mod_eq_of_lt h]
  simp only [assemble, BitVec.toNat_or, BitVec.toNat_shiftLeft, BitVec.toNat_ofNat, BitVec.toNat_setWidth, Nat.or_assoc]
  rw [hfield (by omega), hfield (by omega), hfield (by omega), Nat.mod_eq_of_lt (a := tt.toNat) (by omega),
    ← Nat.shiftLeft_add_eq_or_of_lt htt sel, ← Nat.shiftLeft_add_eq_or_of_lt (by omega) opc,
    ← Nat.shiftLeft_add_eq_or_of_lt (by omega) hbd.toNat]
  simp only [Nat.shiftLeft_eq]

/-- The fields of the word that four fields make. -/
theorem assemble_fields (hbd : Bool) {opc sel : Nat} (tt : BitVec 8) (hopc : opc < 16) (hsel : sel < 256) :
    wReserved (assemble hbd opc sel tt) = 0 ∧ wHbd (assemble hbd opc sel tt) = hbd.toNat ∧
      wOpc (assemble hbd opc sel tt) = opc ∧ wSel (assemble hbd opc sel tt) = sel ∧
      wTxType (assemble hbd opc sel tt) = tt.toNat := by
  have hhbd := hbd.toNat_lt
  have htt := tt.isLt
  rw [wReserved, wHbd, wOpc, wSel, wTxType, toNat_assemble hbd tt hopc hsel]
  omega

/-- A word without reserved bits is the word its fields make. -/
theorem assemble_of_fields {v : Word} (h : wReserved v = 0) :
    assemble (decide (wHbd v = 1)) (wOpc v) (wSel v) (BitVec.ofNat 8 (wTxType v)) = v := by
  apply BitVec.eq_of_toNat_eq
  rw [toNat_assemble _ _ (wOpc_lt v) (wSel_lt v), toNat_decide_wHbd, BitVec.toNat_ofNat]
  rw [wReserved] at h
  simp only [wHbd, wOpc, wSel, wTxType]
  omega

/-! ### The names of shapes and kernels (R68, R70) -/

theorem shapeEntry_eq (sel : BitVec 8) : shapeEntry sel = (shapeOfCode sel.toNat).map fhtInstr := by
  rw [shapeEntry]
  generalize sel.toNat = n
  by_cases h : n < 19
  · interval_cases n <;> rfl
  · obtain ⟨k, rfl⟩ := Nat.exists_eq_add_of_le' (Nat.le_of_not_lt h)
    rfl

theorem kernelEntry_eq (sel : BitVec 8) : kernelEntry sel = (kernelOfId sel.toNat).map k1dInstr := by
  rw [kernelEntry]
  generalize sel.toNat = n
  by_cases h : n < 25
  · interval_cases n <;> rfl
  · obtain ⟨k, rfl⟩ := Nat.exists_eq_add_of_le' (Nat.le_of_not_lt h)
    rfl

theorem shapeOfCode_eq_none_iff (n : Nat) : shapeOfCode n = none ↔ 18 < n := by
  by_cases h : n < 19
  · interval_cases n <;> decide
  · obtain ⟨k, rfl⟩ := Nat.exists_eq_add_of_le' (Nat.le_of_not_lt h)
    exact iff_of_true rfl (by omega)

theorem exists_shapeOfCode (sh : Shape) : ∃ n, n < 19 ∧ shapeOfCode n = some sh := by
  cases sh <;> decide

theorem kernelOfId_kernelId (k : Kernel) : kernelId k < 256 ∧ kernelOfId (kernelId k) = some k := by
  cases k <;> decide

theorem encode_fht {n : Nat} {sh : Shape} (h : shapeOfCode n = some sh) (tt : BitVec 8) (hbd : Bool) :
    encode (fhtInstr sh tt hbd) = assemble hbd 1 n tt := by
  unfold shapeOfCode at h
  split at h <;> cases h <;> rfl

theorem encode_k1d {n : Nat} {k : Kernel} (h : kernelOfId n = some k) : encode (k1dInstr k) = assemble false 3 n 0 := by
  unfold kernelOfId at h
  split at h <;> cases h <;> rfl

/-! ### The branches of the decoder (R72, R73) -/

theorem decode_reserved {v : Word} (h : wReserved v ≠ 0) : decode v = .reject .reservedBits := by
  rw [decode, if_pos ((fieldReserved_ne_zero v).2 h)]

section
variable {v : Word} (hres : wReserved v = 0)
include hres

theorem decode_nop (hopc : wOpc v = 0) :
    decode v = if wSel v ≠ 0 ∨ wTxType v ≠ 0 ∨ wHbd v ≠ 0 then .reject .nopOperands else .ok .nop := by
  simp only [decode, fieldReserved_ne_zero, fieldSel_ne_zero, fieldTxType_ne_zero, fieldHbd_eq_true, toNat_fieldOpc, hres, hopc,
    ne_eq, not_true, if_false]

theorem decode_fht (hopc : wOpc v = 1) :
    decode v = (shapeOfCode (wSel v)).elim (.reject .noSuchShape) fun sh =>
      .ok (fhtInstr sh (BitVec.ofNat 8 (wTxType v)) (decide (wHbd v = 1))) := by
  simp only [decode, fieldReserved_ne_zero, toNat_fieldOpc, hres, hopc, shapeEntry_eq, toNat_fieldSel, fieldTxType_eq, fieldHbd_eq,
    ne_eq, not_true, if_false]
  cases shapeOfCode (wSel v) <;> rfl

theorem decode_wht (hopc : wOpc v = 2) :
    decode v = if wSel v ≠ 0 ∨ wTxType v ≠ 0 then .reject .whtOperands else .ok (.fwht4x4 (decide (wHbd v = 1))) := by
  simp only [decode, fieldReserved_ne_zero, fieldSel_ne_zero, fieldTxType_ne_zero, fieldHbd_eq, toNat_fieldOpc, hres, hopc,
    ne_eq, not_true, if_false]

theorem decode_k1d (hopc : wOpc v = 3) :
    decode v = (kernelOfId (wSel v)).elim (.reject .noSuchKernel) fun k =>
      if wTxType v ≠ 0 ∨ wHbd v ≠ 0 then .reject .k1dOperands else .ok (k1dInstr k) := by
  simp only [decode, fieldReserved_ne_zero, fieldTxType_ne_zero, fieldHbd_eq_true, toNat_fieldOpc, hres, hopc, kernelEntry_eq,
    toNat_fieldSel, ne_eq, not_true, if_false]
  cases kernelOfId (wSel v) <;> rfl

theorem decode_opcode (hopc : 4 ≤ wOpc v) : decode v = .reject .opcode := by
  obtain ⟨n, hn⟩ := Nat.exists_eq_add_of_le' hopc
  simp only [decode, fieldReserved_ne_zero, toNat_fieldOpc, hres, hn, ne_eq, not_true, if_false]

end

/-! ### Decoding and encoding are inverse to each other -/

/-- Every clause of R72 is a branch of the decoder that rejects. -/
theorem decode_of_illegal {v : Word} (h : IllegalWord v) : ∃ r, decode v = .reject r := by
  by_cases hres : wReserved v = 0
  · rcases h with h | h | ⟨hopc, h⟩ | ⟨hopc, h⟩ | ⟨hopc, h⟩ | ⟨hopc, h⟩
    · exact absurd hres h
    · exact ⟨_, decode_opcode hres h⟩
    · exact ⟨_, (decode_nop hres hopc).trans (if_pos h)⟩
    · exact ⟨_, by rw [decode_fht hres hopc, (shapeOfCode_eq_none_iff _).2 h]; rfl⟩
    · exact ⟨_, (decode_wht hres hopc).trans (if_pos h)⟩
    · rw [decode_k1d hres hopc]
      cases hk : kernelOfId (wSel v) with
      | none => exact ⟨_, rfl⟩
      | some k => exact ⟨_, if_pos (h.resolve_left (by simp [hk]))⟩
  · exact ⟨_, decode_reserved hres⟩

/-- A word that no clause of R72 names decodes, and it is the word of the command it decodes to. -/
theorem decode_of_legal {v : Word} (h : ¬ IllegalWord v) : ∃ i, decode v = .ok i ∧ encode i = v := by
  simp only [IllegalWord, not_or, not_and, not_not] at h
  obtain ⟨hres, hlt, hnop, hfht, hwht, hk1d⟩ := h
  have hword := assemble_of_fields hres
  have hopc : wOpc v = 0 ∨ wOpc v = 1 ∨ wOpc v = 2 ∨ wOpc v = 3 := by omega
  rcases hopc with hopc | hopc | hopc | hopc
  · obtain ⟨hsel, htype, hhbd⟩ := hnop hopc
    rw [hopc, hsel, htype, hhbd] at hword
    exact ⟨.nop, by rw [decode_nop hres hopc, hsel, htype, hhbd]; rfl, hword⟩
  · obtain ⟨sh, hsh⟩ := Option.ne_none_iff_exists'.1 (mt (shapeOfCode_eq_none_iff _).1 (hfht hopc))
    rw [hopc] at hword
    exact ⟨_, by rw [decode_fht hres hopc, hsh]; rfl, (encode_fht hsh _ _).trans hword⟩
  · obtain ⟨hsel, htype⟩ := hwht hopc
    rw [hopc, hsel, htype] at hword
    exact ⟨.fwht4x4 (decide (wHbd v = 1)), by rw [decode_wht hres hopc, hsel, htype]; rfl, hword⟩
  · obtain ⟨hid, htype, hhbd⟩ := hk1d hopc
    obtain ⟨k, hk⟩ := Option.ne_none_iff_exists'.1 hid
    rw [hopc, htype, hhbd] at hword
    exact ⟨_, by rw [decode_k1d hres hopc, hk, htype, hhbd]; rfl, (encode_k1d hk).trans hword⟩

/-- Settles O2: an accepted word is legal, and a legal word is the word of the command it decodes to. -/
theorem encodeDecode : Obligations.EncodeDecode := by
  intro w i h
  by_cases hw : IllegalWord w
  · obtain ⟨r, hr⟩ := decode_of_illegal hw
    cases h.symm.trans hr
  · obtain ⟨j, hj, hword⟩ := decode_of_legal hw
    cases h.symm.trans hj
    exact hword

/-- Settles O1: each of the four forms is read back from the fields of its word. -/
theorem decodeEncode : Obligations.DecodeEncode := by
  intro i
  rcases instr_forms i with rfl | ⟨sh, tt, hbd, rfl⟩ | ⟨hbd, rfl⟩ | ⟨k, rfl⟩
  · rfl
  · obtain ⟨n, hn, hsh⟩ := exists_shapeOfCode sh
    obtain ⟨hres, hh, hopc, hsel, ht⟩ := assemble_fields hbd tt (opc := 1) (sel := n) (by decide) (by omega)
    rw [encode_fht hsh, decode_fht hres hopc, hsel, hsh, ht, hh]
    simp
  · obtain ⟨hres, hh, hopc, hsel, ht⟩ := assemble_fields hbd 0 (opc := 2) (sel := 0) (by decide) (by decide)
    rw [encode, decode_wht hres hopc, hsel, ht, hh]
    simp
  · obtain ⟨hlt, hk⟩ := kernelOfId_kernelId k
    obtain ⟨hres, hh, hopc, hsel, ht⟩ := assemble_fields false 0 (opc := 3) (by decide) hlt
    rw [encode_k1d hk, decode_k1d hres hopc, hsel, hk, ht, hh]
    rfl

/-- Settles O4: each word by evaluation. -/
theorem wordExamples : Obligations.WordExamples := by
  unfold Obligations.WordExamples
  decide

end Sys2Proof.Machine
end

section
/-! PROOFS, the rows of the table (30_encoding.md R74): the masks keep the fields that tell a row, so a word that matches a row is
decoded to it. -/

namespace Sys2Proof.Machine

theorem extractLsb'_and_mask {start len : Nat} (w : Word) {m : Word} (h : m.extractLsb' start len = BitVec.allOnes len) :
    (w &&& m).extractLsb' start len = w.extractLsb' start len := by
  rw [BitVec.extractLsb'_and, h, BitVec.and_allOnes]

/-- The fields that the mask of the `FHT*` rows keeps. -/
theorem fields_and_fhtMask (w : Word) :
    wReserved (w &&& 0xFFEFFF00) = wReserved w ∧ wOpc (w &&& 0xFFEFFF00) = wOpc w ∧ wSel (w &&& 0xFFEFFF00) = wSel w := by
  simp only [← toNat_fieldReserved, ← toNat_fieldOpc, ← toNat_fieldSel, fieldReserved, fieldOpc, fieldSel]
  refine ⟨?_, ?_, ?_⟩ <;> rw [extractLsb'_and_mask _ (by decide)]

/-- The fields that the mask of the `FWHT4X4` row keeps. -/
theorem fields_and_whtMask (w : Word) :
    wReserved (w &&& 0xFFEFFFFF) = wReserved w ∧ wOpc (w &&& 0xFFEFFFFF) = wOpc w ∧ wSel (w &&& 0xFFEFFFFF) = wSel w ∧
      wTxType (w &&& 0xFFEFFFFF) = wTxType w := by
  simp only [← toNat_fieldReserved, ← toNat_fieldOpc, ← toNat_fieldSel, ← toNat_fieldTxType, fieldReserved, fieldOpc, fieldSel,
    fieldTxType]
  refine ⟨?_, ?_, ?_, ?_⟩ <;> rw [extractLsb'_and_mask _ (by decide)]

theorem rowMask_fht (sh : Shape) (tt : BitVec 8) (hbd : Bool) : rowMask (fhtInstr sh tt hbd) = 0xFFEFFF00 := by
  cases sh <;> rfl

theorem rowMask_k1d (k : Kernel) : rowMask (k1dInstr k) = 0xFFFFFFFF := by
  cases k <;> rfl

theorem rowMatch_fht {n : Nat} {sh : Shape} (h : shapeOfCode n = some sh) (tt : BitVec 8) (hbd : Bool) :
    rowMatch (fhtInstr sh tt hbd) = assemble false 1 n 0 := by
  unfold shapeOfCode at h
  split at h <;> cases h <;> rfl

theorem rowMatch_k1d (k : Kernel) : rowMatch (k1dInstr k) = encode (k1dInstr k) := by
  cases k <;> rfl

/-- The word of a command matches its row. -/
theorem encode_and_rowMask (i : Instr) : encode i &&& rowMask i = rowMatch i := by
  rcases instr_forms i with rfl | ⟨sh, tt, hbd, rfl⟩ | ⟨hbd, rfl⟩ | ⟨k, rfl⟩
  · rfl
  · cases sh <;> exact (Laws.EncodeRow.assemble_fht hbd 1 _ tt).trans rfl
  · exact Laws.EncodeRow.fwht4x4 hbd
  · rw [rowMask_k1d, rowMatch_k1d]
    exact BitVec.and_allOnes

/-- A word that matches the row of a command decodes to a command of that row. -/
theorem decode_of_matches {w : Word} {i : Instr} (h : w &&& rowMask i = rowMatch i) :
    ∃ j, decode w = .ok j ∧ rowMask j = rowMask i ∧ rowMatch j = rowMatch i := by
  rcases instr_forms i with rfl | ⟨sh, tt, hbd, rfl⟩ | ⟨hbd, rfl⟩ | ⟨k, rfl⟩
  · have hw : w = encode .nop := BitVec.and_allOnes.symm.trans h
    exact ⟨_, hw ▸ decodeEncode _, rfl, rfl⟩
  · obtain ⟨n, hn, hsh⟩ := exists_shapeOfCode sh
    rw [rowMask_fht, rowMatch_fht hsh] at h
    obtain ⟨hres, hopc, hsel⟩ := fields_and_fhtMask w
    obtain ⟨hres', _, hopc', hsel', _⟩ := assemble_fields false 0 (opc := 1) (sel := n) (by decide) (by omega)
    rw [h] at hres hopc hsel
    refine ⟨fhtInstr sh (BitVec.ofNat 8 (wTxType w)) (decide (wHbd w = 1)), ?_, ?_, ?_⟩
    · rw [decode_fht (hres.symm.trans hres') (hopc.symm.trans hopc'), ← hsel, hsel', hsh]
      rfl
    · rw [rowMask_fht, rowMask_fht]
    · rw [rowMatch_fht hsh, rowMatch_fht hsh]
  · obtain ⟨hres, hopc, hsel, htype⟩ := fields_and_whtMask w
    rw [show w &&& 0xFFEFFFFF = 0x00020000 from h] at hres hopc hsel htype
    refine ⟨.fwht4x4 (decide (wHbd w = 1)), ?_, rfl, rfl⟩
    rw [decode_wht hres.symm hopc.symm, ← hsel, ← htype]
    rfl
  · rw [rowMask_k1d, rowMatch_k1d] at h
    have hw : w = encode (k1dInstr k) := BitVec.and_allOnes.symm.trans h
    exact ⟨_, hw ▸ decodeEncode _, rfl, rfl⟩

/-- Settles O5: a word that matches two rows decodes to a command of either, which is one command. -/
theorem rowsOfTheTable : Obligations.RowsOfTheTable := by
  refine ⟨fun w i => ⟨decode_of_matches, fun ⟨j, hj, hmask, hmatch⟩ => ?_⟩, rowMask_fht, fun _ => rfl, rowMask_k1d, rfl,
    fun w i j hi hj => ?_⟩
  · rw [← hmask, ← hmatch, ← encodeDecode w j hj, encode_and_rowMask]
  · obtain ⟨i', hi', hmaski, hmatchi⟩ := decode_of_matches hi
    obtain ⟨j', hj', hmaskj, hmatchj⟩ := decode_of_matches hj
    cases hi'.symm.trans hj'
    exact ⟨hmaski.symm.trans hmaskj, hmatchi.symm.trans hmatchj⟩

end Sys2Proof.Machine
end

section
/-! PROOFS, a write of CMD to an idle engine (30_encoding.md R72, R73): which words fault, and the checks of those that do not. -/

namespace Sys2Proof.Machine

theorem txTypeOf_eq_none_iff (tt : BitVec 8) : txTypeOf tt = none ↔ 15 < tt.toNat := by
  revert tt
  decide

theorem wellFormed_fht (sh : Shape) (tt : BitVec 8) (hbd : Bool) : (fhtInstr sh tt hbd).WellFormed = txTypeOk tt := by
  cases sh <;> rfl

/-- A command with operands is well formed. -/
theorem wellFormed_memCommand (i : MemCommand) : i.instr.WellFormed = true := by
  cases i with
  | block sh t hbd => rw [MemCommand.instr, wellFormed_fht]; cases t <;> rfl
  | wht hbd => rfl
  | vector k => cases k <;> rfl

/-- Only an `FHT*` command can have a type that is no code of R69. -/
theorem fht_of_not_wellFormed {i : Instr} (h : i.WellFormed ≠ true) :
    ∃ sh tt hbd, i = fhtInstr sh tt hbd ∧ txTypeOf tt = none := by
  rcases instr_cases i with rfl | hbad | ⟨c, rfl⟩
  · exact absurd rfl h
  · exact hbad
  · exact absurd (wellFormed_memCommand c) h

/-- Settles O3: an illegal word is rejected, and an accepted one whose command is not well formed has a type above 15. -/
theorem illegalWords : Obligations.IllegalWords := by
  intro s v hidle
  refine ⟨fun hbad => ?_, fun hlegal => ?_, fun hres hopc hsel htype => ?_, fun hno => ?_⟩
  · obtain ⟨r, hr⟩ := decode_of_illegal hbad
    exact writeCmd_reject hidle hr
  · obtain ⟨i, hi, _⟩ := decode_of_legal hlegal
    exact ⟨i, hi⟩
  · obtain ⟨sh, hsh⟩ := Option.ne_none_iff_exists'.1 (mt (shapeOfCode_eq_none_iff _).1 (Nat.not_lt.2 hsel))
    have hd := decode_fht hres hopc
    rw [hsh, ← fieldTxType_eq] at hd
    rw [writeCmd_ok hidle hd]
    exact exec_badType _ _ ((txTypeOf_eq_none_iff _).2 (by rwa [toNat_fieldTxType]))
  · by_cases hw : IllegalWord v
    · obtain ⟨r, hr⟩ := decode_of_illegal hw
      exact ⟨_, writeCmd_reject hidle hr⟩
    · obtain ⟨i, hi, hword⟩ := decode_of_legal hw
      obtain ⟨sh, tt, hbd, rfl, htt⟩ := fht_of_not_wellFormed fun hwf => hno i hwf hword.symm
      exact ⟨_, (writeCmd_ok hidle hi).trans (exec_badType hbd _ htt)⟩

theorem txCode_of_txTypeOf {tt : BitVec 8} {t : TxType} (h : txTypeOf tt = some t) : txCode t = tt := by
  revert tt t
  decide

/-- A command with operands looks at their alignment first (R45). -/
theorem exec_eq_alignCheck (i : MemCommand) (s : State) :
    exec i.instr s = if s.eng.src.toNat % i.readSize ≠ 0 ∨ s.eng.dst.toNat % 4 ≠ 0 then .next (raise .operandAlign s)
      else exec i.instr s := by
  split
  · next h => exact (alignmentFault i s h).1
  · rfl

/-- An `FHT*` command looks at its type before that. -/
theorem exec_fht_eq_checks (sh : Shape) (tt : BitVec 8) (hbd : Bool) (s : State) :
    exec (fhtInstr sh tt hbd) s = if 15 < tt.toNat then .next (raise .txtypeRange s)
      else if s.eng.src.toNat % (1 + hbd.toNat) ≠ 0 ∨ s.eng.dst.toNat % 4 ≠ 0 then .next (raise .operandAlign s)
      else exec (fhtInstr sh tt hbd) s := by
  cases ht : txTypeOf tt with
  | none => rw [if_pos ((txTypeOf_eq_none_iff tt).1 ht), exec_badType hbd s ht]
  | some t =>
    rw [if_neg (mt (txTypeOf_eq_none_iff tt).2 (by simp [ht])), ← txCode_of_txTypeOf ht]
    cases hbd <;> exact exec_eq_alignCheck (.block sh t _) s

/-- `FWHT4X4` looks at the alignment its sample width asks for. -/
theorem exec_wht_eq_checks (hbd : Bool) (s : State) :
    exec (.fwht4x4 hbd) s =
      if s.eng.src.toNat % (1 + hbd.toNat) ≠ 0 ∨ s.eng.dst.toNat % 4 ≠ 0 then .next (raise .operandAlign s)
      else exec (.fwht4x4 hbd) s := by
  cases hbd <;> exact exec_eq_alignCheck (.wht _) s

/-- A command that ends has taken a fault or set DONE. -/
theorem Ran.done {s s' : State} (h : Ran s s') :
    s'.eng.run = .faulted ∨ (s'.eng.run = s.eng.run ∧ statusDone s'.eng.status = true) := by
  cases h with
  | faulted c e w seen => exact .inl rfl
  | completed e w m seen stored => exact .inr ⟨congrArg Visible.run seen, by simp [statusDone, setDone]⟩

/-- Settles O18: the branches of the decoder are the checks of R73 up to the type, and the command looks at the rest. -/
theorem decodeAndExecute : Obligations.DecodeAndExecute := by
  intro s v hidle s1 illegal align
  refine ⟨?_, fun s' h => (writeCmd_ran hidle h).done.imp_right (And.imp_left fun hrun => hrun.trans hidle)⟩
  by_cases hres : wReserved v = 0
  swap
  · rw [if_pos hres]
    exact writeCmd_reject hidle (decode_reserved hres)
  rw [if_neg (not_not.2 hres)]
  have hopc : wOpc v = 0 ∨ wOpc v = 1 ∨ wOpc v = 2 ∨ wOpc v = 3 ∨ 4 ≤ wOpc v := by omega
  rcases hopc with hopc | hopc | hopc | hopc | hopc
  · rw [if_pos hopc]
    have hd := decode_nop hres hopc
    split_ifs at hd ⊢
    · exact writeCmd_reject hidle hd
    · exact writeCmd_ok hidle hd
  · rw [if_neg (by omega), if_pos hopc]
    have hd := decode_fht hres hopc
    cases hsh : shapeOfCode (wSel v) with
    | none => exact writeCmd_reject hidle (by rw [hd, hsh]; rfl)
    | some sh =>
      have hchecks := exec_fht_eq_checks sh (fieldTxType v) (decide (wHbd v = 1)) s1
      rw [toNat_decide_wHbd, toNat_fieldTxType, fieldTxType_eq] at hchecks
      rw [hsh] at hd
      exact (writeCmd_ok hidle hd).trans hchecks
  · rw [if_neg (by omega), if_neg (by omega), if_pos hopc]
    have hd := decode_wht hres hopc
    have hchecks := exec_wht_eq_checks (decide (wHbd v = 1)) s1
    rw [toNat_decide_wHbd] at hchecks
    split_ifs at hd with hbad
    · exact (writeCmd_reject hidle hd).trans (if_pos hbad).symm
    · exact (writeCmd_ok hidle hd).trans (hchecks.trans (if_neg hbad).symm)
  · rw [if_neg (by omega), if_neg (by omega), if_neg (by omega), if_pos hopc]
    have hd := decode_k1d hres hopc
    cases hk : kernelOfId (wSel v) with
    | none => exact writeCmd_reject hidle (by rw [hd, hk]; rfl)
    | some k =>
      rw [hk, Option.elim_some] at hd
      split_ifs at hd with hbad
      · exact (writeCmd_reject hidle hd).trans (if_pos hbad).symm
      · exact (writeCmd_ok hidle hd).trans ((exec_eq_alignCheck (.vector k) s1).trans (if_neg hbad).symm)
  · rw [if_neg (by omega), if_neg (by omega), if_neg (by omega), if_neg (by omega)]
    exact writeCmd_reject hidle (decode_opcode hres hopc)

end Sys2Proof.Machine
end

section
/-! PROOFS, the hosts' own accesses (20_memory.md R41, 30_encoding.md R76). -/

namespace Sys2Proof.Machine

theorem memRead_memWrite (m : Memory) (a n v : Nat) : memRead (memWrite m a n v) a n = v % 2 ^ (8 * n) := by
  rw [Nat.pow_mul]
  refine memRead_of_leBytes _ a n v fun k hk => ?_
  rw [memWrite, readByte_writeBytes, leBytes_length, if_pos (by omega), Nat.add_sub_cancel_left]

/-- Settles O37: the bytes of a store are read back, and a load's four bytes fit the word that answers it. -/
theorem hostAccesses : Obligations.HostAccesses := by
  refine ⟨fun s w addr v hin hadmit => ?_, fun s addr hin hadmit => ?_, fun s w addr v hout => if_pos hout⟩
  · refine ⟨_, (if_neg (Nat.not_lt.2 hin)).trans (if_pos hadmit), rfl, memRead_memWrite _ _ _ _, fun a ha => ?_⟩
    rw [readByte_memWrite, if_neg ha]
  · refine ⟨_, (if_neg (Nat.not_lt.2 hin)).trans (if_pos hadmit), ?_, rfl, rfl⟩
    exact (BitVec.toNat_ofNat ..).trans (Nat.mod_eq_of_lt (memRead_lt s.mem addr.toNat 4))

end Sys2Proof.Machine
end

section
/-! PROOFS, the primitives (40_primitives.md R90 to R101): when a narrowing changes its value, the two roundings, and how far a rounded
product is from the exact one. -/

namespace Sys2Proof.Machine

/-! ### Narrowing -/

/-- A wrap changes exactly the numbers outside the two's-complement range. -/
theorem toInt_ofInt_ne_iff {n : Nat} (hn : 0 < n) (v : Int) :
    (BitVec.ofInt n v).toInt ≠ v ↔ v < -(2 ^ (n - 1)) ∨ 2 ^ (n - 1) ≤ v := by
  constructor
  · intro h
    by_contra hin
    exact h (BitVec.toInt_ofInt_eq_self hn (by omega) (by omega))
  · intro hout h
    have lo := BitVec.le_toInt (BitVec.ofInt n v)
    have hi := BitVec.toInt_lt (x := BitVec.ofInt n v)
    omega

/-- What `narrowS` charges for, in terms of its operand. -/
theorem charges_narrowS_range (v : Int) : Charges (narrowS v) (BitVec.ofInt 32 v) (decide (v < -(2 ^ 31) ∨ 2 ^ 31 ≤ v)) := by
  rw [← decide_eq_decide.2 (toInt_ofInt_ne_iff (n := 32) (by decide) v)]
  exact charges_narrowS v

/-- What `narrowW` charges for, in terms of its operand. -/
theorem charges_narrowW_range (v : Int) :
    Charges (narrowW v) (BitVec.ofInt 64 v).toInt (decide (v < -(2 ^ 63) ∨ 2 ^ 63 ≤ v)) := by
  rw [← decide_eq_decide.2 (toInt_ofInt_ne_iff (n := 64) (by decide) v)]
  exact charges_narrowW v

/-- `Charges` with the budget bit first, as the statements write it. -/
theorem Charges.run_or {α : Type} {c : Calc α} {v : α} {w : Bool} (h : Charges c v w) (b : Bool) : c.run b = (v, b || w) := by
  rw [h.run, Bool.or_comm]

/-- Settles O38: a narrowing is a wrap, and a wrap changes exactly the numbers outside the range. -/
theorem narrowing : Obligations.Narrowing := by
  refine ⟨fun v => (charges_narrowS_range v).run_or, fun v b => ?_, fun v => ⟨BitVec.toInt_ofInt v, toInt_ofInt_of_range v⟩⟩
  rw [(charges_narrowW_range v).run_or, BitVec.toInt_ofInt]

/-! ### Adders and the left shift -/

theorem ofInt_toInt_add (a b : Lane) : BitVec.ofInt 32 (a.toInt + b.toInt) = a + b := by
  simp only [BitVec.ofInt_add, BitVec.ofInt_toInt]

theorem ofInt_toInt_neg (a : Lane) : BitVec.ofInt 32 (-a.toInt) = -a := by
  simp only [BitVec.ofInt_neg, BitVec.ofInt_toInt]

theorem ofInt_toInt_sub (a b : Lane) : BitVec.ofInt 32 (a.toInt - b.toInt) = a - b := by
  simp only [Int.sub_eq_add_neg, BitVec.ofInt_add, BitVec.ofInt_neg, BitVec.ofInt_toInt, BitVec.sub_eq_add_neg]

theorem ofInt_toInt_mul_two_pow (a : Lane) (k : Nat) : BitVec.ofInt 32 (a.toInt * 2 ^ k) = a <<< k := by
  have hpow : BitVec.ofInt 32 (2 ^ k) = BitVec.twoPow 32 k := by
    rw [show (2 ^ k : Int) = ((2 ^ k : Nat) : Int) by norm_cast, BitVec.ofInt_natCast]
    exact BitVec.eq_of_toNat_eq (by rw [BitVec.toNat_ofNat, BitVec.toNat_twoPow])
  rw [BitVec.ofInt_mul, BitVec.ofInt_toInt, hpow, BitVec.shiftLeft_eq_mul_twoPow]

/-- Settles O42: each is one narrowing of the exact result, whose wrap is the operation on words. -/
theorem addersAndShift : Obligations.AddersAndShift := by
  refine ⟨fun a b x => ⟨?_, ?_, ?_, fun k => ?_⟩, fun x => ?_⟩
  · exact ofInt_toInt_add a b ▸ (charges_narrowS_range (a.toInt + b.toInt)).run_or x
  · exact ofInt_toInt_sub a b ▸ (charges_narrowS_range (a.toInt - b.toInt)).run_or x
  · exact ofInt_toInt_neg a ▸ (charges_narrowS_range (-a.toInt)).run_or x
  · exact ofInt_toInt_mul_two_pow a k ▸ (charges_narrowS_range (a.toInt * 2 ^ k)).run_or x
  · exact (charges_narrowS_range (-(0x80000000 : Lane).toInt)).run x

/-! ### The two roundings -/

/-- The floor of a quotient by `2 ^ n`. -/
theorem shiftRight_bounds (v : Int) (n : Nat) : 2 ^ n * (v >>> n) ≤ v ∧ v < 2 ^ n * (v >>> n + 1) := by
  have hpos : (0 : Int) < 2 ^ n := by positivity
  rw [Int.shiftRight_eq_div_pow, Nat.cast_pow, Nat.cast_ofNat, mul_add, mul_one]
  exact ⟨Int.mul_ediv_self_le hpos.ne', Int.lt_mul_ediv_self_add hpos⟩

theorem charges_roundShift_succ (v : Int) (n : Nat) :
    Charges (roundShift v (n + 1)) ((BitVec.ofInt 64 (v + 2 ^ n)).toInt >>> (n + 1))
      (decide (v + 2 ^ n < -(2 ^ 63) ∨ 2 ^ 63 ≤ v + 2 ^ n)) := by
  have h := charges_bind (f := fun w : Int => pure (w >>> (n + 1))) (charges_narrowW_range (v + 2 ^ n)) (charges_pure _)
  rwa [Bool.false_or] at h

/-- Settles O39: the rounding term is added in the working width, which holds the sum or charges for it. -/
theorem roundShift_nearest : Obligations.RoundShift := by
  refine ⟨fun v b => rfl, fun v n b hn _ lo _ => ?_⟩
  obtain ⟨m, rfl⟩ : ∃ m, n = m + 1 := ⟨n - 1, by omega⟩
  have hpos : (0 : Int) < 2 ^ m := by positivity
  rw [Nat.add_sub_cancel, (charges_roundShift_succ v m).run b]
  split
  case isTrue hi =>
    refine ⟨(v + 2 ^ m) >>> (m + 1), ?_, shiftRight_bounds _ _⟩
    rw [toInt_ofInt64_of_range _ (by omega) hi, decide_eq_false (by omega), Bool.false_or]
  case isFalse hi => rw [decide_eq_true (by omega), Bool.true_or]

theorem roundShiftSigned_succ_of_nonneg {v : Int} (n : Nat) (h : 0 ≤ v) :
    roundShiftSigned v (n + 1) = (v + 2 ^ n) >>> (n + 1) := if_pos h

/-- A number that is not negative is rounded into the interval from 0 to itself. -/
theorem roundShiftSigned_mem_Icc {v : Int} (n : Nat) (h : 0 ≤ v) : roundShiftSigned v n ∈ Set.Icc 0 v := by
  cases n with
  | zero => exact ⟨h, le_rfl⟩
  | succ n =>
    obtain ⟨hlo, hhi⟩ := shiftRight_bounds (v + 2 ^ n) (n + 1)
    have hpos : (0 : Int) < 2 ^ n := by positivity
    rw [roundShiftSigned_succ_of_nonneg n h]
    rw [pow_succ] at hlo hhi
    constructor <;> by_contra! hq <;> nlinarith

theorem roundShiftSigned_zero (n : Nat) : roundShiftSigned 0 n = 0 := by
  obtain ⟨hlo, hhi⟩ := roundShiftSigned_mem_Icc n (le_refl 0)
  exact le_antisymm hhi hlo

theorem roundShiftSigned_neg (v : Int) (n : Nat) : roundShiftSigned (-v) n = -roundShiftSigned v n := by
  cases n with
  | zero => rfl
  | succ n =>
    rcases lt_trichotomy v 0 with h | rfl | h
    · simp only [roundShiftSigned, if_pos (show 0 ≤ -v by omega), if_neg (show ¬ 0 ≤ v by omega), neg_neg]
    · simp [roundShiftSigned_zero]
    · simp only [roundShiftSigned, if_neg (show ¬ 0 ≤ -v by omega), if_pos h.le, neg_neg]

theorem abs_roundShiftSigned_le (v : Int) (n : Nat) : |roundShiftSigned v n| ≤ |v| := by
  have nonneg : ∀ {v : Int}, 0 ≤ v → |roundShiftSigned v n| ≤ |v| := fun h => by
    obtain ⟨hlo, hhi⟩ := roundShiftSigned_mem_Icc n h
    rwa [abs_of_nonneg hlo, abs_of_nonneg h]
  rcases le_total 0 v with h | h
  · exact nonneg h
  · simpa [roundShiftSigned_neg] using nonneg (neg_nonneg.2 h)

/-- Settles O40: the two signs mirror each other, and a number that is not negative is rounded to a floor between 0 and itself. -/
theorem roundShiftSigned_nearest : Obligations.RoundShiftSigned := by
  refine ⟨fun v => rfl, fun v n hn h => ?_, fun v n => ⟨roundShiftSigned_neg v n, abs_roundShiftSigned_le v n⟩⟩
  obtain ⟨m, rfl⟩ : ∃ m, n = m + 1 := ⟨n - 1, by omega⟩
  rw [roundShiftSigned_succ_of_nonneg m h]
  exact shiftRight_bounds _ _

/-! ### Rounded products -/

/-- A product sum `p` rounded by 14 bits and narrowed to a lane: within half a unit, or out of budget. -/
theorem rounded_product {c : Calc Lane} {p : Int}
    (h : Charges c (BitVec.ofInt 32 ((p + 8192) / 16384)) (decide ((BitVec.ofInt 32 ((p + 8192) / 16384)).toInt ≠ (p + 8192) / 16384)))
    (x : Bool) :
    if -(2 ^ 45) - 2 ^ 13 ≤ p ∧ p + 2 ^ 13 < 2 ^ 45 then
      (c.run x).2 = x ∧ -(2 ^ 13) < 2 ^ 14 * (c.run x).1.toInt - p ∧ 2 ^ 14 * (c.run x).1.toInt - p ≤ 2 ^ 13
    else (c.run x).2 = true := by
  rw [h.run x]
  split
  case isTrue hin =>
    have hq : (BitVec.ofInt 32 ((p + 8192) / 16384)).toInt = (p + 8192) / 16384 := toInt_ofInt_of_range _ (by omega) (by omega)
    simp only [hq, ne_eq, not_true_eq_false, decide_false, Bool.false_or, true_and]
    omega
  case isFalse hout =>
    have hq := (toInt_ofInt_ne_iff (n := 32) (by decide) ((p + 8192) / 16384)).2 (by norm_num; omega)
    simp only [hq, ne_eq, not_false_eq_true, decide_true, Bool.true_or]

/-- Settles O41: no narrowing but the last charges, and it narrows the rounded product sum. -/
theorem rotationError : Obligations.RotationError :=
  ⟨fun w0 w1 a b x => rounded_product (charges_rot _ _ a b (weight_range w0) (weight_range w1)) x,
   fun a x => rounded_product (charges_mulc a) x⟩

/-! ### The constants -/

/-- Settles O43: the square root of two by its square, two cosines of known angles, and the table by evaluation. -/
theorem constants : Obligations.Constants := by
  have hlo : (1.414213 : ℝ) ≤ Real.sqrt 2 := Real.le_sqrt_of_sq_le (by norm_num)
  have hhi : Real.sqrt 2 ≤ 1.414214 := Real.sqrt_le_iff.2 ⟨by norm_num, by norm_num⟩
  refine ⟨?_, ?_, ?_, ?_, ?_⟩
  · rw [abs_le, sqrt2]
    constructor <;> push_cast <;> linarith
  · rw [zero_mul, zero_div, Real.cos_zero, show cospi 0 = 16384 from rfl]
    norm_num
  · rw [show (32 * Real.pi / 128 : ℝ) = Real.pi / 4 by ring, Real.cos_pi_div_four, show cospi 32 = 11585 from rfl, abs_le]
    constructor <;> push_cast <;> linarith
  · rw [show (64 * Real.pi / 128 : ℝ) = Real.pi / 2 by ring, Real.cos_pi_div_two, show cospi 64 = 0 from rfl]
    norm_num
  · decide

end Sys2Proof.Machine
end

section
/-! PROOFS, the contract of a kernel (40_primitives.md R100, R101): one run whatever the budget bit, which it at most sets, and zeros
from zeros in budget. -/

namespace Sys2Proof.Machine

/-! ### Calculations that do not read the budget bit -/

/-- A calculation that gives one answer and one charge, whatever the budget bit before it. -/
def Uniform {α : Type} (c : Calc α) : Prop := ∃ v w, Charges c v w

theorem Charges.uniform {α : Type} {c : Calc α} {v : α} {w : Bool} (h : Charges c v w) : Uniform c := ⟨v, w, h⟩

theorem uniform_pure {α : Type} (v : α) : Uniform (pure v : Calc α) := (charges_pure v).uniform

theorem uniform_bind {α β : Type} {c : Calc α} {f : α → Calc β} (hc : Uniform c) (hf : ∀ a, Uniform (f a)) :
    Uniform (c >>= f) := by
  obtain ⟨v, _, h⟩ := hc
  obtain ⟨_, _, h'⟩ := hf v
  exact (charges_bind h h').uniform

theorem uniform_mapM {α β : Type} {f : α → Calc β} (xs : List α) (h : ∀ x, Uniform (f x)) : Uniform (xs.mapM f) := by
  choose g w hf using h
  exact (charges_mapM xs fun x _ => hf x).uniform

theorem uniform_narrowS (v : Int) : Uniform (narrowS v) := (charges_narrowS v).uniform

theorem uniform_narrowW (v : Int) : Uniform (narrowW v) := (charges_narrowW v).uniform

theorem uniform_roundShift (v : Int) (n : Nat) : Uniform (roundShift v n) := by
  cases n with
  | zero => exact uniform_pure v
  | succ n => exact (charges_roundShift_succ v n).uniform

theorem uniform_mulc (a : Lane) (c : Int) : Uniform (mulc a c) :=
  uniform_bind (uniform_roundShift _ _) uniform_narrowS

theorem uniform_rs14 (v : Int) : Uniform (rs14 v) :=
  uniform_bind (uniform_narrowW v) fun _ => uniform_bind (uniform_roundShift _ _) uniform_narrowS

/-- A rotation is `RS14` of its product sum (R96, R102). -/
theorem rot_eq_rs14 (w0 : Int) (a : Lane) (w1 : Int) (b : Lane) : rot w0 a w1 b = rs14 (w0 * a.toInt + w1 * b.toInt) := rfl

theorem uniform_shlSqrt2 (k : Nat) (root : Bool) (x : Lane) : Uniform (shlSqrt2 k root x) := by
  refine uniform_bind (uniform_narrowS _) fun y => ?_
  cases root with
  | false => exact uniform_pure y
  | true => exact uniform_mulc y sqrt2

/-! ### The kernels, each a chain of primitives -/

theorem uniform_runLaneOp (b : List Lane) (op : LaneOp) : Uniform (runLaneOp b op) := by
  cases op with
  | copy i => exact uniform_pure _
  | add i j => exact uniform_narrowS _
  | sub i j => exact uniform_narrowS _
  | rot w0 i w1 j => exact uniform_rs14 _

theorem uniform_runStages (net : List (List LaneOp)) (b : List Lane) : Uniform (runStages net b) := by
  induction net generalizing b with
  | nil => exact uniform_pure _
  | cons stage net ih =>
    exact uniform_bind (uniform_mapM stage (uniform_runLaneOp b)) fun b' => uniform_bind (ih b') fun _ => uniform_pure _

theorem uniform_fadst4 (v : List Lane) : Uniform (fadst4 v) := by
  unfold fadst4
  split
  · exact uniform_pure _
  · iterate 4 refine uniform_bind (uniform_rs14 _) fun _ => ?_
    exact uniform_pure _

/-! The counts below are those of the listings of R121 and R122, stage by stage. -/

theorem uniform_fadst8 (v : List Lane) : Uniform (fadst8 v) := by
  unfold fadst8
  dsimp only [turn, turnBack]
  iterate 8 refine uniform_bind (uniform_rs14 _) fun _ => ?_
  iterate 4 refine uniform_bind (uniform_narrowS _) fun _ => ?_
  iterate 4 refine uniform_bind (uniform_rs14 _) fun _ => ?_
  iterate 4 refine uniform_bind (uniform_rs14 _) fun _ => ?_
  iterate 4 refine uniform_bind (uniform_narrowS _) fun _ => ?_
  exact uniform_pure _

theorem uniform_fadst16 (v : List Lane) : Uniform (fadst16 v) := by
  unfold fadst16
  dsimp only [turn, turnBack]
  iterate 16 refine uniform_bind (uniform_rs14 _) fun _ => ?_
  iterate 8 refine uniform_bind (uniform_narrowS _) fun _ => ?_
  iterate 8 refine uniform_bind (uniform_rs14 _) fun _ => ?_
  iterate 4 refine uniform_bind (uniform_narrowS _) fun _ => ?_
  iterate 4 refine uniform_bind (uniform_rs14 _) fun _ => ?_
  iterate 4 refine uniform_bind (uniform_narrowS _) fun _ => ?_
  iterate 4 refine uniform_bind (uniform_rs14 _) fun _ => ?_
  iterate 8 refine uniform_bind (uniform_rs14 _) fun _ => ?_
  iterate 4 refine uniform_bind (uniform_narrowS _) fun _ => ?_
  exact uniform_pure _

theorem uniform_wht4 (v : List Lane) : Uniform (wht4 v) := by
  unfold wht4
  dsimp only
  iterate 7 refine uniform_bind (uniform_narrowS _) fun _ => ?_
  exact uniform_pure _

/-! ### Kernel runs on a vector -/

/-- A kernel run on `v`: one answer and one charge, and VIN holds `v`. -/
def RunsOn (v : List Lane) (c : Calc KernelRun) : Prop := ∃ r w, Charges c r w ∧ r.vin = v

theorem runsOn_pure {v : List Lane} {r : KernelRun} (h : r.vin = v) : RunsOn v (pure r) := ⟨r, false, charges_pure r, h⟩

theorem runsOn_bind {α : Type} {v : List Lane} {c : Calc α} {f : α → Calc KernelRun} (hc : Uniform c)
    (hf : ∀ a, RunsOn v (f a)) : RunsOn v (c >>= f) := by
  obtain ⟨a, _, h⟩ := hc
  obtain ⟨r, _, h', hr⟩ := hf a
  exact ⟨r, _, charges_bind h h', hr⟩

theorem runsOn_runDct (net : List (List LaneOp)) (v : List Lane) : RunsOn v (runDct net v) :=
  runsOn_bind (uniform_runStages net v) fun _ => runsOn_pure rfl

theorem runsOn_runPlain {f : List Lane → Calc (List Lane)} {v : List Lane} (h : Uniform (f v)) : RunsOn v (runPlain f v) :=
  runsOn_bind h fun _ => runsOn_pure rfl

theorem runsOn_runHalfRight (half k : Nat) (root : Bool) (net : List (List LaneOp)) (v : List Lane) :
    RunsOn v (runHalfRight half (shlSqrt2 k root) net v) :=
  runsOn_bind (uniform_mapM _ (uniform_shlSqrt2 k root)) fun _ =>
    runsOn_bind (uniform_mapM _ fun x => uniform_mulc x sqrt2) fun h =>
      runsOn_bind (uniform_runStages net h) fun _ => runsOn_pure rfl

theorem runsOn_runKernel (k : Kernel) (v : List Lane) : RunsOn v (runKernel k v) := by
  cases k with
  | fdct4 => exact runsOn_runDct _ v
  | fdct8 => exact runsOn_runDct _ v
  | fdct16 => exact runsOn_runDct _ v
  | fdct32 => exact runsOn_runDct _ v
  | fdct64 => exact runsOn_runDct _ v
  | fadst4 => exact runsOn_runPlain (uniform_fadst4 v)
  | fadst8 => exact runsOn_runPlain (uniform_fadst8 v)
  | fadst16 => exact runsOn_runPlain (uniform_fadst16 v)
  | fhalfright32 => exact runsOn_runHalfRight 16 2 false _ v
  | fhalfright64 => exact runsOn_runHalfRight 32 2 true _ v
  | fidtx4 => exact runsOn_runPlain (uniform_mapM v fun x => uniform_mulc x sqrt2)
  | fidtx8 => exact runsOn_runPlain (uniform_mapM v (uniform_shlSqrt2 1 false))
  | fidtx16 => exact runsOn_runPlain (uniform_mapM v (uniform_shlSqrt2 1 true))
  | fidtx32 => exact runsOn_runPlain (uniform_mapM v (uniform_shlSqrt2 2 false))
  | fidtx64 => exact runsOn_runPlain (uniform_mapM v (uniform_shlSqrt2 2 true))
  | wht4 => exact runsOn_runPlain (uniform_wht4 v)

/-! ### Zeros -/

theorem lane_replicate_zero (n i : Nat) : lane (List.replicate n 0) i = 0 := by
  rw [lane, List.getD_eq_getElem?_getD, List.getElem?_replicate]
  split <;> rfl

theorem toInt_zero_lane : (0 : Lane).toInt = 0 := rfl

theorem exact_narrowS_zero : Exact (narrowS 0) 0 := exact_narrowS 0 (by decide) (by decide)

theorem exact_rs14_zero : Exact (rs14 0) 0 := fun b => by cases b <;> rfl

theorem exact_mulc_zero : Exact (mulc 0 sqrt2) 0 := fun b => by cases b <;> rfl

theorem exact_shlSqrt2_zero (k : Nat) (root : Bool) : Exact (shlSqrt2 k root 0) 0 := by
  have hshl : Exact (shl 0 k) 0 := by
    rw [shl, toInt_zero_lane, zero_mul]
    exact exact_narrowS_zero
  cases root with
  | false => exact exact_bind hshl (exact_pure 0)
  | true => exact exact_bind hshl exact_mulc_zero

/-- A list of calculations that all answer zero. -/
theorem exact_mapM_zeros {α : Type} {f : α → Calc Lane} (xs : List α) (h : ∀ x ∈ xs, Exact (f x) 0) :
    Exact (xs.mapM f) (List.replicate xs.length 0) := by
  rw [← List.map_const']
  exact exact_mapM xs h

theorem exact_mapM_replicate_zero {f : Lane → Calc Lane} (n : Nat) (h : Exact (f 0) 0) :
    Exact ((List.replicate n 0).mapM f) (List.replicate n 0) := by
  have := exact_mapM_zeros (f := f) (List.replicate n 0) fun x hx => by rwa [List.eq_of_mem_replicate hx]
  rwa [List.length_replicate] at this

theorem exact_runLaneOp_zero (n : Nat) (op : LaneOp) : Exact (runLaneOp (List.replicate n 0) op) 0 := by
  cases op with
  | copy i =>
    rw [runLaneOp, lane_replicate_zero]
    exact exact_pure 0
  | add i j =>
    rw [runLaneOp, lane_replicate_zero, lane_replicate_zero]
    exact exact_narrowS_zero
  | sub i j =>
    rw [runLaneOp, lane_replicate_zero, lane_replicate_zero]
    exact exact_narrowS_zero
  | rot w0 i w1 j =>
    rw [runLaneOp, lane_replicate_zero, lane_replicate_zero, rot_eq_rs14, toInt_zero_lane, mul_zero, mul_zero, add_zero]
    exact exact_rs14_zero

/-! A calculation that stays in budget is the pure one of its answer, so a chain of primitives on zeros is rewritten away. -/

theorem exact_iff_eq_pure {α : Type} {c : Calc α} {v : α} : Exact c v ↔ c = pure v :=
  ⟨fun h => funext h.run, fun h => h ▸ exact_pure v⟩

theorem rs14_zero : rs14 0 = pure 0 := exact_iff_eq_pure.1 exact_rs14_zero

theorem add_zero_zero : add 0 0 = pure 0 := exact_iff_eq_pure.1 exact_narrowS_zero

theorem sub_zero_zero : sub 0 0 = pure 0 := exact_iff_eq_pure.1 exact_narrowS_zero

theorem neg_zero_lane : neg 0 = pure 0 := exact_iff_eq_pure.1 exact_narrowS_zero

theorem turn_zero (c d : Int) : turn c 0 d 0 = (0, 0) := by simp [turn]

theorem turnBack_zero (c d : Int) : turnBack c 0 d 0 = (0, 0) := by simp [turnBack]

theorem fadst4_zeros : fadst4 (List.replicate 4 0) = pure (List.replicate 4 0) := rfl

theorem fadst8_zeros : fadst8 (List.replicate 8 0) = pure (List.replicate 8 0) := by
  simp only [fadst8, lane_replicate_zero, turn_zero, turnBack_zero, toInt_zero_lane, add_zero, sub_zero, mul_zero, rs14_zero,
    add_zero_zero, sub_zero_zero, neg_zero_lane, pure_bind]
  rfl

theorem fadst16_zeros : fadst16 (List.replicate 16 0) = pure (List.replicate 16 0) := by
  simp only [fadst16, lane_replicate_zero, turn_zero, turnBack_zero, toInt_zero_lane, neg_zero, add_zero, sub_zero, mul_zero,
    rs14_zero, add_zero_zero, sub_zero_zero, neg_zero_lane, pure_bind]
  rfl

theorem wht4_zeros : wht4 (List.replicate 4 0) = pure (List.replicate 4 0) := by
  simp only [wht4, lane_replicate_zero, add_zero_zero, sub_zero_zero, pure_bind]
  rfl

/-- A network on zeros: every stage vector is zero. -/
theorem exact_runStages_zero {n : Nat} (net : List (List LaneOp)) (hnet : ∀ stage ∈ net, stage.length = n) :
    Exact (runStages net (List.replicate n 0)) (List.replicate (net.length + 1) (List.replicate n 0)) := by
  induction net with
  | nil => exact exact_pure _
  | cons stage net ih =>
    have hstage := exact_mapM_zeros stage fun op _ => exact_runLaneOp_zero n op
    rw [hnet stage (by simp)] at hstage
    exact exact_bind hstage (exact_bind (ih fun st h => hnet st (by simp [h])) (exact_pure _))

theorem lastStage_replicate (n : Nat) (b : List Lane) : lastStage (List.replicate (n + 1) b) = b := by
  rw [lastStage, List.getLastD_eq_getLast?, List.getLast?_replicate]
  rfl

/-- A kernel run in budget whose output is `n` zeros. -/
def RunsToZeros (n : Nat) (c : Calc KernelRun) : Prop := ∃ r, Exact c r ∧ r.vout = List.replicate n 0

theorem runsToZeros_runDct {n : Nat} (net : List (List LaneOp)) (hnet : ∀ stage ∈ net, stage.length = n) :
    RunsToZeros n (runDct net (List.replicate n 0)) :=
  ⟨_, exact_bind (exact_runStages_zero net hnet) (exact_pure _), lastStage_replicate _ _⟩

theorem runsToZeros_runPlain {n : Nat} {f : List Lane → Calc (List Lane)}
    (h : Exact (f (List.replicate n 0)) (List.replicate n 0)) : RunsToZeros n (runPlain f (List.replicate n 0)) :=
  ⟨_, exact_bind h (exact_pure _), rfl⟩

theorem runsToZeros_runHalfRight (half k : Nat) (root : Bool) (net : List (List LaneOp))
    (hnet : ∀ stage ∈ net, stage.length = half) :
    RunsToZeros (half + half) (runHalfRight half (shlSqrt2 k root) net (List.replicate (half + half) 0)) := by
  have hhigh := exact_mapM_replicate_zero half (exact_shlSqrt2_zero k root)
  have hlow := exact_mapM_replicate_zero (f := timesSqrt2) half exact_mulc_zero
  rw [runHalfRight, List.take_replicate, List.drop_replicate, Nat.add_sub_cancel, min_eq_left (Nat.le_add_right half half)]
  refine ⟨_, exact_bind hhigh (exact_bind hlow (exact_bind (exact_runStages_zero net hnet) (exact_pure _))), ?_⟩
  rw [lastStage_replicate, List.replicate_append_replicate]

theorem runsToZeros_runKernel (k : Kernel) : RunsToZeros (kernelLen k) (runKernel k (List.replicate (kernelLen k) 0)) := by
  cases k with
  | fdct4 => exact runsToZeros_runDct _ (by decide)
  | fdct8 => exact runsToZeros_runDct _ (by decide)
  | fdct16 => exact runsToZeros_runDct _ (by decide)
  | fdct32 => exact runsToZeros_runDct _ (by decide)
  | fdct64 => exact runsToZeros_runDct _ (by decide)
  | fadst4 => exact runsToZeros_runPlain (exact_iff_eq_pure.2 fadst4_zeros)
  | fadst8 => exact runsToZeros_runPlain (exact_iff_eq_pure.2 fadst8_zeros)
  | fadst16 => exact runsToZeros_runPlain (exact_iff_eq_pure.2 fadst16_zeros)
  | fhalfright32 => exact runsToZeros_runHalfRight 16 2 false _ (by decide)
  | fhalfright64 => exact runsToZeros_runHalfRight 32 2 true _ (by decide)
  | fidtx4 => exact runsToZeros_runPlain (exact_mapM_replicate_zero 4 exact_mulc_zero)
  | fidtx8 => exact runsToZeros_runPlain (exact_mapM_replicate_zero 8 (exact_shlSqrt2_zero 1 false))
  | fidtx16 => exact runsToZeros_runPlain (exact_mapM_replicate_zero 16 (exact_shlSqrt2_zero 1 true))
  | fidtx32 => exact runsToZeros_runPlain (exact_mapM_replicate_zero 32 (exact_shlSqrt2_zero 2 false))
  | fidtx64 => exact runsToZeros_runPlain (exact_mapM_replicate_zero 64 (exact_shlSqrt2_zero 2 true))
  | wht4 => exact runsToZeros_runPlain (exact_iff_eq_pure.2 wht4_zeros)

/-- Settles O44: a kernel is a chain of primitives, none of which reads the budget bit, and each of which takes zeros to zero. -/
theorem kernelContract : Obligations.KernelContract := by
  refine ⟨fun k v hv => ?_, fun k b => ?_⟩
  · obtain ⟨r, w, h, hvin⟩ := runsOn_runKernel k v
    have fits := runKernel_ensures k v hv false
    rw [h.run] at fits
    exact ⟨r, w, h.run_or, hvin, fits.vout⟩
  · obtain ⟨r, h, hvout⟩ := runsToZeros_runKernel k
    rw [h.run]
    exact ⟨hvout, rfl⟩

end Sys2Proof.Machine
end

section
/-! PROOFS, the DCT kernels on a constant vector (41_dct_kernels.md R105 to R109, 42_dct_kernels_large.md R115, R116). Every lane of every
stage is then a rounded multiple of the one input value, so a network is run on the multipliers, which are numbers. -/

namespace Sys2Proof.Machine

/-! ### Lanes that are multiples of one value -/

/-- The multiple of `v` by `g / 2^14`, rounded. -/
def scaledLane (v : Lane) (g : Int) : Lane := BitVec.ofInt 32 ((g * v.toInt + 8192) / 16384)

/-- A multiplier, in units of `2^-14`, that is a whole number of magnitude at most `n`. -/
def wholeGain (n : Nat) (g : Int) : Bool := g % 16384 == 0 && decide (g.natAbs ≤ 16384 * n)

/-- The multiplier a lane of a stage has, from those of the stage before. -/
def laneGain (b : List Int) : LaneOp → Int
  | .copy i => b.getD i 0
  | .add i j => b.getD i 0 + b.getD j 0
  | .sub i j => b.getD i 0 - b.getD j 0
  | .rot w0 i w1 j => weightValue w0 * (b.getD i 0 / 16384) + weightValue w1 * (b.getD j 0 / 16384)

/-- The operands of an addition, a subtraction or a rotation are whole multiples, at most `n` times the value. -/
def operandsWhole (n : Nat) (b : List Int) : LaneOp → Bool
  | .copy _ => true
  | .add i j | .sub i j | .rot _ i _ j => wholeGain n (b.getD i 0) && wholeGain n (b.getD j 0)

/-- The multipliers of VOUT, from those of VIN. -/
def netGains : List (List LaneOp) → List Int → List Int
  | [], b => b
  | stage :: rest, b => netGains rest (stage.map (laneGain b))

/-- Every rotation, addition and subtraction of a network has whole operands. -/
def netWhole (n : Nat) : List (List LaneOp) → List Int → Bool
  | [], _ => true
  | stage :: rest, b => stage.all (operandsWhole n b) && netWhole n rest (stage.map (laneGain b))

theorem scaledLane_whole (v : Lane) (c : Int) : scaledLane v (16384 * c) = BitVec.ofInt 32 (c * v.toInt) := by
  rw [scaledLane, mul_assoc]
  congr 1
  omega

theorem scaledLane_zero (v : Lane) : scaledLane v 0 = 0 := by
  rw [scaledLane, zero_mul]
  rfl

theorem scaledLane_one (v : Lane) : scaledLane v 16384 = v := by
  have := scaledLane_whole v 1
  rwa [one_mul, mul_one, BitVec.ofInt_toInt] at this

theorem lane_map_scaledLane (v : Lane) (b : List Int) (i : Nat) : lane (b.map (scaledLane v)) i = scaledLane v (b.getD i 0) := by
  rw [lane, ← scaledLane_zero v, List.getD_map]

/-- A whole multiple, at most `n` times a value whose `n`-fold is below `2^30`, is held without a wrap. -/
theorem whole_multiple {n : Nat} {v : Lane} {g : Int} (hv : |n * v.toInt| < 2 ^ 30) (hg : wholeGain n g = true) :
    ∃ c, g = 16384 * c ∧ (scaledLane v g).toInt = c * v.toInt ∧ -(2 ^ 30) < c * v.toInt ∧ c * v.toInt < 2 ^ 30 := by
  rw [wholeGain, Bool.and_eq_true, beq_iff_eq, decide_eq_true_eq] at hg
  obtain ⟨hdvd, hle⟩ := hg
  obtain ⟨c, rfl⟩ := Int.dvd_of_emod_eq_zero hdvd
  have hc : |c| ≤ n := abs_le.2 (by omega)
  have hcv : |c * v.toInt| < 2 ^ 30 := by
    refine lt_of_le_of_lt ?_ hv
    rw [abs_mul, abs_mul, Nat.abs_cast]
    exact mul_le_mul_of_nonneg_right hc (abs_nonneg _)
  obtain ⟨lo, hi⟩ := abs_lt.1 hcv
  refine ⟨c, rfl, ?_, lo, hi⟩
  rw [scaledLane_whole]
  exact toInt_ofInt_of_range _ (by omega) (by omega)

/-! ### One lane of a stage -/

/-- `RS14` of a sum in the working range, whose rounding is a lane. -/
theorem exact_rs14 (p : Int) (lo : -(2 ^ 45) ≤ p) (hi : p < 2 ^ 45 - 2 ^ 13) : Exact (rs14 p) (BitVec.ofInt 32 ((p + 8192) / 16384)) :=
  exact_bind (exact_narrowW p (by omega) (by omega))
    (exact_bind (exact_roundShift14 p (by omega) (by omega)) (exact_narrowS _ (by omega) (by omega)))

theorem weightValue_mul_range (w : Weight) {x : Int} (hx : -(2 ^ 30) < x ∧ x < 2 ^ 30) :
    -(2 ^ 44 - 2 ^ 14) ≤ weightValue w * x ∧ weightValue w * x ≤ 2 ^ 44 - 2 ^ 14 := by
  have hx' : |x| ≤ 2 ^ 30 - 1 := abs_le.2 (by omega)
  refine abs_le.1 ?_
  rw [abs_mul, show (2 ^ 44 - 2 ^ 14 : Int) = 16384 * (2 ^ 30 - 1) by norm_num]
  exact mul_le_mul (abs_le.2 (weight_range w)) hx' (abs_nonneg x) (by norm_num)

/-- A lane of a stage whose operands are multiples of `v` is in budget the multiple its gain says. -/
theorem exact_runLaneOp_scaled {n : Nat} {v : Lane} (hv : |n * v.toInt| < 2 ^ 30) {b : List Int} {op : LaneOp}
    (h : operandsWhole n b op = true) : Exact (runLaneOp (b.map (scaledLane v)) op) (scaledLane v (laneGain b op)) := by
  cases op with
  | copy i =>
    rw [runLaneOp, lane_map_scaledLane]
    exact exact_pure _
  | add i j =>
    rw [operandsWhole, Bool.and_eq_true] at h
    obtain ⟨x, hi, hx, hxlt⟩ := whole_multiple hv h.1
    obtain ⟨y, hj, hy, hylt⟩ := whole_multiple hv h.2
    rw [runLaneOp, lane_map_scaledLane, lane_map_scaledLane, add, hx, hy, laneGain, hi, hj, ← mul_add, scaledLane_whole, add_mul]
    exact exact_narrowS _ (by omega) (by omega)
  | sub i j =>
    rw [operandsWhole, Bool.and_eq_true] at h
    obtain ⟨x, hi, hx, hxlt⟩ := whole_multiple hv h.1
    obtain ⟨y, hj, hy, hylt⟩ := whole_multiple hv h.2
    rw [runLaneOp, lane_map_scaledLane, lane_map_scaledLane, sub, hx, hy, laneGain, hi, hj, ← mul_sub, scaledLane_whole, sub_mul]
    exact exact_narrowS _ (by omega) (by omega)
  | rot w0 i w1 j =>
    rw [operandsWhole, Bool.and_eq_true] at h
    obtain ⟨x, hi, hx, hxlt⟩ := whole_multiple hv h.1
    obtain ⟨y, hj, hy, hylt⟩ := whole_multiple hv h.2
    have hwx := weightValue_mul_range w0 hxlt
    have hwy := weightValue_mul_range w1 hylt
    rw [runLaneOp, lane_map_scaledLane, lane_map_scaledLane, rot_eq_rs14, hx, hy, laneGain, hi, hj,
      Int.mul_ediv_cancel_left _ (by norm_num), Int.mul_ediv_cancel_left _ (by norm_num), scaledLane, add_mul, mul_assoc, mul_assoc]
    exact exact_rs14 _ (by omega) (by omega)

/-! ### Networks -/

theorem lastStage_cons (b : List Lane) {bs : List (List Lane)} (h : bs ≠ []) : lastStage (b :: bs) = lastStage bs := by
  obtain ⟨c, cs, rfl⟩ := List.exists_cons_of_ne_nil h
  rfl

/-- A network on multiples of `v` stays in budget and leaves the multiples its gains say. -/
theorem exact_runStages_scaled {n : Nat} {v : Lane} (hv : |n * v.toInt| < 2 ^ 30) (net : List (List LaneOp)) (b : List Int)
    (h : netWhole n net b = true) :
    ∃ bs, Exact (runStages net (b.map (scaledLane v))) bs ∧ bs ≠ [] ∧ lastStage bs = (netGains net b).map (scaledLane v) := by
  induction net generalizing b with
  | nil => exact ⟨_, exact_pure _, by simp, rfl⟩
  | cons stage net ih =>
    rw [netWhole, Bool.and_eq_true, List.all_eq_true] at h
    obtain ⟨hstage, hnet⟩ := h
    have hrun : Exact (runStage stage (b.map (scaledLane v))) _ :=
      exact_mapM stage fun op hop => exact_runLaneOp_scaled hv (hstage op hop)
    obtain ⟨bs, hbs, hne, hlast⟩ := ih _ hnet
    rw [List.map_map] at hbs
    refine ⟨_, exact_bind hrun (exact_bind hbs (exact_pure _)), by simp, ?_⟩
    rw [lastStage_cons _ hne, hlast, netGains]

/-- The multipliers of a DCT of `n` equal lanes: all operands are whole, lane 0 gets the scaled sum and the others cancel. -/
def SumsConstant (n : Nat) (net : List (List LaneOp)) : Prop :=
  netWhole n net (List.replicate n 16384) = true ∧
    netGains net (List.replicate n 16384) = (11585 * n : Int) :: List.replicate (n - 1) 0

/-- A kernel that is such a network, on a constant vector. -/
theorem runKernel_constant {k : Kernel} {net : List (List LaneOp)} (hk : ∀ v, runKernel k v = runDct net v)
    (hnet : SumsConstant (kernelLen k) net) {v : Lane} (hv : |kernelLen k * v.toInt| < 2 ^ 30) (b : Bool) :
    ((runKernel k (List.replicate (kernelLen k) v)).run b).1.vout =
        BitVec.ofInt 32 ((11585 * (kernelLen k * v.toInt) + 8192) / 16384) :: List.replicate (kernelLen k - 1) 0 ∧
      ((runKernel k (List.replicate (kernelLen k) v)).run b).2 = b := by
  obtain ⟨hwhole, hgains⟩ := hnet
  obtain ⟨bs, hbs, -, hlast⟩ := exact_runStages_scaled hv net _ hwhole
  rw [List.map_replicate, scaledLane_one] at hbs
  have hrun : Exact (runDct net (List.replicate (kernelLen k) v)) _ := exact_bind hbs (exact_pure _)
  rw [hk, hrun.run]
  refine ⟨?_, rfl⟩
  rw [hlast, hgains, List.map_cons, List.map_replicate, scaledLane_zero, scaledLane, mul_assoc]

/-! The networks of the listings, run on their multipliers (R106 to R108, R115, R116). -/

theorem sumsConstant_fdct4 : SumsConstant (kernelLen .fdct4) fdct4Net := ⟨by decide, by decide⟩

theorem sumsConstant_fdct8 : SumsConstant (kernelLen .fdct8) fdct8Net := ⟨by decide, by decide⟩

theorem sumsConstant_fdct16 : SumsConstant (kernelLen .fdct16) fdct16Net := ⟨by decide, by decide⟩

theorem sumsConstant_fdct32 : SumsConstant (kernelLen .fdct32) fdct32Net := ⟨by decide, by decide⟩

theorem sumsConstant_fdct64 : SumsConstant (kernelLen .fdct64) fdct64Net := ⟨by decide, by decide⟩

/-- Settles O45: the networks are run once on the multipliers of a constant vector, and a run on the vector follows them. -/
theorem dctConstant : Obligations.DctConstant := by
  rintro k (rfl | rfl | rfl | rfl | rfl) v b hv
  · exact runKernel_constant (fun _ => rfl) sumsConstant_fdct4 hv b
  · exact runKernel_constant (fun _ => rfl) sumsConstant_fdct8 hv b
  · exact runKernel_constant (fun _ => rfl) sumsConstant_fdct16 hv b
  · exact runKernel_constant (fun _ => rfl) sumsConstant_fdct32 hv b
  · exact runKernel_constant (fun _ => rfl) sumsConstant_fdct64 hv b

end Sys2Proof.Machine
end

section
/-! PROOFS, the 4-point ADST and the half-right kernels lane by lane (43_adst_kernels.md R120, R123, R124): a chain of primitives answers
what its last narrowings leave, since no narrowing in the working width changes a value. -/

namespace Sys2Proof.Machine

/-! ### The answer of a calculation -/

/-- A calculation that answers `v`, whatever the budget bit and whatever it charges. -/
def Answers {α : Type} (c : Calc α) (v : α) : Prop := ∃ w, Charges c v w

theorem Charges.answers {α : Type} {c : Calc α} {v : α} {w : Bool} (h : Charges c v w) : Answers c v := ⟨w, h⟩

theorem Exact.answers {α : Type} {c : Calc α} {v : α} (h : Exact c v) : Answers c v := ⟨false, h⟩

theorem Answers.run_fst {α : Type} {c : Calc α} {v : α} (h : Answers c v) (b : Bool) : (c.run b).1 = v := by
  obtain ⟨w, hw⟩ := h
  rw [hw.run]

theorem answers_pure {α : Type} (v : α) : Answers (pure v : Calc α) v := (charges_pure v).answers

theorem answers_bind {α β : Type} {c : Calc α} {f : α → Calc β} {v : α} {u : β} (h : Answers c v) (h' : Answers (f v) u) :
    Answers (c >>= f) u := by
  obtain ⟨_, hc⟩ := h
  obtain ⟨_, hf⟩ := h'
  exact (charges_bind hc hf).answers

theorem answers_mapM {α β : Type} {f : α → Calc β} {g : α → β} (xs : List α) (h : ∀ x ∈ xs, Answers (f x) (g x)) :
    Answers (xs.mapM f) (xs.map g) := by
  induction xs with
  | nil => exact answers_pure _
  | cons x xs ih =>
    rw [List.mapM_cons]
    exact answers_bind (h x (by simp)) (answers_bind (ih fun y hy => h y (by simp [hy])) (answers_pure _))

/-! ### Rounded sums and scaled lanes -/

/-- A working value rounded by 14 bits and wrapped to a lane. -/
def rounded14 (p : Int) : Lane := BitVec.ofInt 32 ((p + 8192) / 16384)

/-- `RS14` of a sum well inside the working width: only its last narrowing can change a value. -/
theorem answers_rs14 (p : Int) (lo : -(2 ^ 62) ≤ p) (hi : p < 2 ^ 62) : Answers (rs14 p) (rounded14 p) :=
  answers_bind (exact_narrowW p (by omega) (by omega)).answers
    (answers_bind (exact_roundShift14 p lo hi).answers (charges_narrowS _).answers)

/-- A lane times the square root of two, as `MULC` leaves it. -/
def sqrt2Lane (a : Lane) : Lane := rounded14 (a.toInt * 23170)

theorem sqrt2Lane_eq : sqrt2Lane = fun a => BitVec.ofInt 32 ((a.toInt * 23170 + 8192) / 16384) := rfl

theorem answers_timesSqrt2 (a : Lane) : Answers (timesSqrt2 a) (sqrt2Lane a) := (charges_mulc a).answers

/-! A shift left by `k` is the wrapped multiple by `2 ^ k`, whichever numeral `n` that is. -/

theorem answers_shl {k : Nat} {n : Int} (hn : 2 ^ k = n) (a : Lane) : Answers (shl a k) (BitVec.ofInt 32 (n * a.toInt)) := by
  rw [← hn, mul_comm]
  exact (charges_shl a k).answers

theorem answers_shlSqrt2_false {k : Nat} {n : Int} (hn : 2 ^ k = n) (a : Lane) :
    Answers (shlSqrt2 k false a) (BitVec.ofInt 32 (n * a.toInt)) :=
  answers_bind (answers_shl hn a) (answers_pure _)

theorem answers_shlSqrt2_true {k : Nat} {n : Int} (hn : 2 ^ k = n) (a : Lane) :
    Answers (shlSqrt2 k true a) (sqrt2Lane (BitVec.ofInt 32 (n * a.toInt))) :=
  answers_bind (answers_shl hn a) (answers_timesSqrt2 _)

/-! ### FADST4 -/

/-- The four working values of R120 that `RS14` rounds. -/
def fadst4Sums (a b c d : Lane) : List Int :=
  let y0 := 5283 * a.toInt + 9929 * b.toInt + 15212 * d.toInt
  let y1 := 13377 * (a.toInt + b.toInt - d.toInt)
  let y2 := 15212 * a.toInt - 5283 * b.toInt + 9929 * d.toInt
  let y3 := 13377 * c.toInt
  [y0 + y3, y1, y2 - y3, y2 - y0 + y3]

theorem fadst4Sums_range (a b c d : Lane) : ∀ p ∈ fadst4Sums a b c d, -(2 ^ 62) ≤ p ∧ p < 2 ^ 62 := by
  have ha := lane_range a
  have hb := lane_range b
  have hc := lane_range c
  have hd := lane_range d
  simp only [fadst4Sums, List.forall_mem_cons, List.not_mem_nil, false_implies, implies_true, and_true]
  omega

/-- The fast path of R120 cannot be observed, not even in the budget bit: `RS14` takes zero to zero. -/
theorem fadst4_eq_mapM_rs14 (a b c d : Lane) : fadst4 [a, b, c, d] = (fadst4Sums a b c d).mapM rs14 := by
  unfold fadst4
  split
  case isTrue h =>
    obtain ⟨rfl, rfl, rfl, rfl⟩ : a = 0 ∧ b = 0 ∧ c = 0 ∧ d = 0 := h
    rw [show fadst4Sums 0 0 0 0 = [0, 0, 0, 0] by decide]
    simp only [List.mapM_cons, List.mapM_nil, rs14_zero, pure_bind]
  case isFalse => rfl

/-- Settles O46: the four working values stay inside the working width, so only the narrowing to a lane can change one. -/
theorem fadst4Formula : Obligations.Fadst4Formula := by
  intro a b c d x
  have hlanes : Answers ((fadst4Sums a b c d).mapM rs14) ((fadst4Sums a b c d).map rounded14) :=
    answers_mapM _ fun p hp => answers_rs14 p (fadst4Sums_range a b c d p hp).1 (fadst4Sums_range a b c d p hp).2
  rw [← fadst4_eq_mapM_rs14] at hlanes
  have hrun : Answers (runKernel .fadst4 [a, b, c, d]) _ := answers_bind hlanes (answers_pure _)
  rw [hrun.run_fst]
  rfl

/-! ### The half-right kernels -/

/-- A half-right run puts out the DCT of its second half, scaled by the square root of two, and its first half, scaled by `first`. -/
theorem runHalfRight_vout (half : Nat) {first : Lane → Calc Lane} {g : Lane → Lane} (net : List (List LaneOp)) (v : List Lane)
    (x : Bool) (hfirst : ∀ a, Answers (first a) (g a)) :
    ((runHalfRight half first net v).run x).1.vout =
      ((runDct net ((v.drop half).map sqrt2Lane)).run false).1.vout ++ (v.take half).map g := by
  obtain ⟨bs, hbs⟩ : Uniform (runStages net ((v.drop half).map sqrt2Lane)) := uniform_runStages _ _
  have hdct : Answers (runDct net ((v.drop half).map sqrt2Lane)) _ := answers_bind hbs (answers_pure _)
  have hrun : Answers (runHalfRight half first net v) _ :=
    answers_bind (answers_mapM (v.take half) fun a _ => hfirst a)
      (answers_bind (answers_mapM (v.drop half) fun a _ => answers_timesSqrt2 a) (answers_bind hbs (answers_pure _)))
  rw [hdct.run_fst, hrun.run_fst]

/-- Settles O47: both halves are scaled lane by lane, and the network runs on the scaled second half as in the DCT kernel. -/
theorem halfRight : Obligations.HalfRight := by
  have two_pow : (2 : Int) ^ 2 = 4 := by norm_num
  refine ⟨fun v x _ => ?_, fun v x _ => ?_⟩
  · rw [runKernel, runKernel, runHalfRight_vout 16 fdct16Net v x (answers_shlSqrt2_false two_pow), sqrt2Lane_eq]
  · rw [runKernel, runKernel, runHalfRight_vout 32 fdct32Net v x (answers_shlSqrt2_true two_pow), sqrt2Lane_eq]

end Sys2Proof.Machine
end

section
/-! PROOFS, the identity kernels and the Walsh-Hadamard kernel (44_identity_wht_kernels.md R130 to R135). A calculation in budget narrows
nothing away, so WHT4 in budget is its pass on exact integers, and that pass has an inverse. -/

namespace Sys2Proof.Machine

/-! ### The identity kernels -/

/-- A kernel that treats its lanes one by one puts out what each of them answers. -/
theorem runPlain_mapM_vout {f : Lane → Calc Lane} {g : Lane → Lane} (h : ∀ a, Answers (f a) (g a)) (v : List Lane) (x : Bool) :
    ((runPlain (List.mapM f) v).run x).1.vout = v.map g := by
  have hrun : Answers (runPlain (List.mapM f) v) _ := answers_bind (answers_mapM v fun a _ => h a) (answers_pure _)
  rw [hrun.run_fst]

/-- Settles O48: each kernel scales its lanes one by one, by a shift, a multiplication by the square root of two, or both. -/
theorem identityKernels : Obligations.IdentityKernels := fun v x =>
  have two : (2 : Int) ^ 1 = 2 := by norm_num
  have four : (2 : Int) ^ 2 = 4 := by norm_num
  ⟨runPlain_mapM_vout answers_timesSqrt2 v x,
    runPlain_mapM_vout (answers_shlSqrt2_false two) v x,
    runPlain_mapM_vout (answers_shlSqrt2_true two) v x,
    runPlain_mapM_vout (answers_shlSqrt2_false four) v x,
    runPlain_mapM_vout (answers_shlSqrt2_true four) v x⟩

/-! ### Calculations in budget -/

/-- A calculation that leaves a clear budget bit clear is in budget whatever the bit was. -/
theorem Uniform.exact {α : Type} {c : Calc α} (hc : Uniform c) (h : (c.run false).2 = false) : ∃ v, Exact c v := by
  obtain ⟨v, w, hw⟩ := hc
  obtain rfl : w = false := by simpa [hw.run] using h
  exact ⟨v, hw⟩

theorem exact_pure_iff {α : Type} {u v : α} : Exact (pure u : Calc α) v ↔ u = v :=
  ⟨fun h => congrArg Prod.fst (h false), fun h => h ▸ exact_pure u⟩

/-- A chain that begins with a narrowing is in budget when a lane holds the narrowed number and the rest of the chain on it is. -/
theorem exact_narrowS_bind_iff {α : Type} {v : Int} {f : Lane → Calc α} {u : α} :
    Exact (narrowS v >>= f) u ↔ ∃ l : Lane, l.toInt = v ∧ Exact (f l) u := by
  constructor
  · intro h
    have hstep (b : Bool) : (f (BitVec.ofInt 32 v)).run (decide ((BitVec.ofInt 32 v).toInt ≠ v) || b) = (u, b) := h.run b
    by_cases hkept : (BitVec.ofInt 32 v).toInt = v
    · simp only [hkept, ne_eq, not_true_eq_false, decide_false, Bool.false_or] at hstep
      exact ⟨_, hkept, hstep⟩
    · -- Once charged, the rest of the chain cannot tell apart the two bits it has to give back.
      simp only [hkept, ne_eq, not_false_eq_true, decide_true, Bool.true_or] at hstep
      cases (hstep false).symm.trans (hstep true)
  · rintro ⟨l, rfl, hf⟩
    refine exact_bind (exact_narrowS _ (lane_range l).1 (lane_range l).2) ?_
    rwa [BitVec.ofInt_toInt]

theorem exists_lane_of_range {v : Int} (h : -(2 ^ 31) ≤ v ∧ v < 2 ^ 31) : ∃ l : Lane, l.toInt = v :=
  ⟨_, toInt_ofInt_of_range v h.1 h.2⟩

theorem eq_ofInt_of_toInt {l : Lane} {v : Int} (h : l.toInt = v) : l = BitVec.ofInt 32 v := by
  rw [← h, BitVec.ofInt_toInt]

theorem toInt_sshiftRight_one (e : Lane) : (e.sshiftRight 1).toInt = e.toInt / 2 := by
  rw [BitVec.toInt_sshiftRight, Int.shiftRight_eq_div_pow, pow_one, Nat.cast_ofNat]

/-! ### WHT4 -/

/-- The pass of R135 on exact integers. -/
def wht4Int (a b c d : Int) : Int × Int × Int × Int :=
  let a1 := a + b
  let d1 := d - c
  let e1 := (a1 - d1) / 2
  let b1 := e1 - b
  let c1 := e1 - c
  (a1 - c1, c1, d1 + b1, b1)

/-- The inverse pass undoes it: both halve the same difference. -/
theorem iwht4_wht4Int {a b c d p q r s : Int} (h : (p, q, r, s) = wht4Int a b c d) : iwht4 p q r s = (a, b, c, d) := by
  simp only [wht4Int, Prod.mk.injEq] at h
  obtain ⟨hp, hq, hr, hs⟩ := h
  have ha1 : p + q = a + b := by omega
  have hd1 : r - s = d - c := by omega
  simp only [iwht4, ha1, hd1, Prod.mk.injEq]
  omega

theorem wht4Int_const (v : Int) : wht4Int v v v v = (2 * v, 0, 0, 0) := by
  simp only [wht4Int, Prod.mk.injEq]
  omega

/-- WHT4 is in budget when a lane holds each of its seven sums. -/
theorem exact_wht4_iff {a b c d : Lane} {y : List Lane} :
    Exact (wht4 [a, b, c, d]) y ↔
      ∃ a1 : Lane, a1.toInt = a.toInt + b.toInt ∧
      ∃ d1 : Lane, d1.toInt = d.toInt - c.toInt ∧
      ∃ e : Lane, e.toInt = a1.toInt - d1.toInt ∧
      ∃ b1 : Lane, b1.toInt = e.toInt / 2 - b.toInt ∧
      ∃ c1 : Lane, c1.toInt = e.toInt / 2 - c.toInt ∧
      ∃ a2 : Lane, a2.toInt = a1.toInt - c1.toInt ∧
      ∃ d2 : Lane, d2.toInt = d1.toInt + b1.toInt ∧ [a2, c1, d2, b1] = y := by
  simp only [wht4, add, sub, exact_narrowS_bind_iff, exact_pure_iff, toInt_sshiftRight_one]
  rfl

/-- In budget, WHT4 is its pass on exact integers. -/
theorem exact_wht4_toInt {a b c d : Lane} {y : List Lane} (h : Exact (wht4 [a, b, c, d]) y) :
    ∃ p q r s : Lane, y = [p, q, r, s] ∧
      (p.toInt, q.toInt, r.toInt, s.toInt) = wht4Int a.toInt b.toInt c.toInt d.toInt := by
  obtain ⟨a1, ha1, d1, hd1, e, he, b1, hb1, c1, hc1, a2, ha2, d2, hd2, rfl⟩ := exact_wht4_iff.1 h
  exact ⟨a2, c1, d2, b1, rfl, by simp only [wht4Int, ha2, hd2, hb1, hc1, he, ha1, hd1]⟩

/-- Below `2 ^ 28` no sum of WHT4 leaves the lane range. -/
theorem exists_exact_wht4 {a b c d : Lane} (ha : |a.toInt| < 2 ^ 28) (hb : |b.toInt| < 2 ^ 28) (hc : |c.toInt| < 2 ^ 28)
    (hd : |d.toInt| < 2 ^ 28) : ∃ y, Exact (wht4 [a, b, c, d]) y := by
  rw [abs_lt] at ha hb hc hd
  obtain ⟨a1, ha1⟩ := exists_lane_of_range (v := a.toInt + b.toInt) (by omega)
  obtain ⟨d1, hd1⟩ := exists_lane_of_range (v := d.toInt - c.toInt) (by omega)
  obtain ⟨e, he⟩ := exists_lane_of_range (v := a1.toInt - d1.toInt) (by omega)
  obtain ⟨b1, hb1⟩ := exists_lane_of_range (v := e.toInt / 2 - b.toInt) (by omega)
  obtain ⟨c1, hc1⟩ := exists_lane_of_range (v := e.toInt / 2 - c.toInt) (by omega)
  obtain ⟨a2, ha2⟩ := exists_lane_of_range (v := a1.toInt - c1.toInt) (by omega)
  obtain ⟨d2, hd2⟩ := exists_lane_of_range (v := d1.toInt + b1.toInt) (by omega)
  exact ⟨_, exact_wht4_iff.2 ⟨a1, ha1, d1, hd1, e, he, b1, hb1, c1, hc1, a2, ha2, d2, hd2, rfl⟩⟩

/-- In budget, a constant vector is all in lane 0. -/
theorem exact_wht4_const {v : Lane} {y : List Lane} (h : Exact (wht4 [v, v, v, v]) y) : y = [BitVec.ofInt 32 (2 * v.toInt), 0, 0, 0] := by
  obtain ⟨p, q, r, s, rfl, hvalues⟩ := exact_wht4_toInt h
  rw [wht4Int_const] at hvalues
  simp only [Prod.mk.injEq] at hvalues
  obtain ⟨hp, hq, hr, hs⟩ := hvalues
  rw [eq_ofInt_of_toInt hp, eq_ofInt_of_toInt hq, eq_ofInt_of_toInt hr, eq_ofInt_of_toInt hs]
  rfl

theorem runKernel_wht4 (v : List Lane) (x : Bool) :
    (runKernel .wht4 v).run x = ({ vin := v, stages := [], vout := ((wht4 v).run x).1 }, ((wht4 v).run x).2) := rfl

/-- Settles O49: in budget WHT4 is the pass on exact integers, which the inverse pass undoes and which takes a constant to its double. -/
theorem wht4Invertible : Obligations.Wht4Invertible := by
  intro a b c d x
  simp only [runKernel_wht4]
  refine ⟨fun hbudget => ?_, fun ha hb hc hd => ?_⟩
  · obtain ⟨y, hy⟩ := (uniform_wht4 _).exact hbudget
    obtain ⟨p, q, r, s, rfl, hvalues⟩ := exact_wht4_toInt hy
    rw [hy.run]
    exact iwht4_wht4Int hvalues
  · obtain ⟨y, hy⟩ := exists_exact_wht4 ha hb hc hd
    rw [hy.run]
    refine ⟨rfl, ?_⟩
    rintro rfl rfl rfl
    exact exact_wht4_const hy

end Sys2Proof.Machine
end

section
/-! PROOFS, the flips (45_flip.md R140, R141, R144, R145): the conditioner mirrors the two indices of a sample, and a flipping type and its
unflipped partner have one dispatch record, so their words differ by the mirror alone. -/

namespace Sys2Proof.Machine

/-- Settles O20: a type above 15 has no cell of the dispatch table. -/
theorem typeFault : Obligations.TypeFault := fun _ tt hbd s h => exec_badType hbd s ((txTypeOf_eq_none_iff tt).2 h)

/-! ### The mirror of an axis -/

/-- Index `i` of an axis of `n` samples, mirrored when `flip`. -/
def flipIndex (flip : Bool) (n i : Nat) : Nat := if flip then n - 1 - i else i

theorem flipIndex_lt (flip : Bool) {n i : Nat} (h : i < n) : flipIndex flip n i < n := by
  rw [flipIndex]
  split <;> omega

theorem flipIndex_flipIndex (flip : Bool) {n i : Nat} (h : i < n) : flipIndex flip n (flipIndex flip n i) = i := by
  cases flip with
  | false => rfl
  | true =>
    change n - 1 - (n - 1 - i) = i
    omega

theorem flipIndex_comm (flip flip' : Bool) (n i : Nat) :
    flipIndex flip n (flipIndex flip' n i) = flipIndex flip' n (flipIndex flip n i) := by
  cases flip <;> cases flip' <;> rfl

/-! ### The conditioned block -/

/-- An element of a conditioned block is the sample at the mirrored place (R141). -/
theorem condition_getD (f : FlipClass) {w h : Nat} (smp : Nat → Nat → Sample) {r c : Nat} (hr : r < h) (hc : c < w) :
    ((condition f w h smp).getD r []).getD c 0 = smp (flipIndex f.ud h r) (flipIndex f.lr w c) := by
  simp [condition, flipIndex, hr, hc]

/-- Two conditioned blocks are the same when they have the same samples at the mirrored places. -/
theorem condition_ext {f f' : FlipClass} {w h : Nat} {smp smp' : Nat → Nat → Sample}
    (hsmp : ∀ r c, r < h → c < w →
      smp (flipIndex f.ud h r) (flipIndex f.lr w c) = smp' (flipIndex f'.ud h r) (flipIndex f'.lr w c)) :
    condition f w h smp = condition f' w h smp' :=
  List.map_congr_left fun r hr => List.map_congr_left fun c hc => hsmp r c (List.mem_range.1 hr) (List.mem_range.1 hc)

/-- An element of a block conditioned again is the sample at the place mirrored twice. -/
theorem condition_getD_flipIndex (f g : FlipClass) {w h : Nat} (smp : Nat → Nat → Sample) {r c : Nat} (hr : r < h) (hc : c < w) :
    ((condition g w h smp).getD (flipIndex f.ud h r) []).getD (flipIndex f.lr w c) 0 =
      smp (flipIndex g.ud h (flipIndex f.ud h r)) (flipIndex g.lr w (flipIndex f.lr w c)) :=
  condition_getD g smp (flipIndex_lt f.ud hr) (flipIndex_lt f.lr hc)

/-- The flip class of a type names the axes whose kind is the flipped ADST (R140). -/
theorem flipClass_iff (t : TxType) :
    ((flipClass t).ud = true ↔ verticalKind t = .flipadst) ∧ ((flipClass t).lr = true ↔ horizontalKind t = .flipadst) := by
  cases t <;> decide

/-- Settles O52: an axis mirrored twice is the axis, and mirrors of one axis commute. -/
theorem conditioner : Obligations.Conditioner := by
  refine ⟨flipClass_iff, fun f w h smp r c hr hc => condition_getD f smp hr hc, fun f g w h smp => ⟨?_, ?_⟩⟩
  · refine condition_ext fun r c hr hc => ?_
    rw [condition_getD_flipIndex f f smp hr hc, flipIndex_flipIndex f.ud hr, flipIndex_flipIndex f.lr hc]
    rfl
  · refine condition_ext fun r c hr hc => ?_
    rw [condition_getD_flipIndex f g smp hr hc, condition_getD_flipIndex g f smp hr hc, flipIndex_comm f.ud, flipIndex_comm f.lr]

/-! ### A flipping type and its partner (R144) -/

theorem flipClass_partner (t : TxType) : flipClass (partner t) = ⟨false, false⟩ := by
  cases t <;> rfl

/-- A flipped ADST has the kernels of the ADST. -/
theorem kernelFor_flipadst (n : Nat) : kernelFor .flipadst n = kernelFor .adst n := by
  unfold kernelFor
  split <;> simp_all

theorem dispatch_partner (sh : Shape) (t : TxType) : dispatch sh (partner t) = dispatch sh t := by
  cases t <;> simp only [dispatch, partner, verticalKind, horizontalKind, kernelFor_flipadst]

/-- The passes look at the type through its dispatch record alone. -/
theorem shapePasses_partner (sh : Shape) (t : TxType) (x : List (List Sample)) :
    shapePasses sh (partner t) x = shapePasses sh t x := by
  rw [shapePasses, shapePasses, dispatch_partner]

/-- The block of a flipping type is the block of its partner on the mirrored samples. -/
theorem shapeBlock_partner {sh : Shape} {t : TxType} {b b' : Bool} {m m' : Memory} {e e' : Engine}
    (hsmp : ∀ r c, r < shapeHeight sh → c < shapeWidth sh →
      sample m' e' b' r c = sample m e b (if verticalKind t = .flipadst then shapeHeight sh - 1 - r else r)
        (if horizontalKind t = .flipadst then shapeWidth sh - 1 - c else c)) :
    shapeBlock sh (partner t) b' m' e' = shapeBlock sh t b m e := by
  obtain ⟨hud, hlr⟩ := flipClass_iff t
  refine condition_ext fun r c hr hc => ?_
  rw [flipClass_partner]
  simpa only [flipIndex, hud, hlr, Bool.false_eq_true, if_false] using hsmp r c hr hc

/-- With the checks off, a command on ready operands that answers a next state has stored the words it computed. -/
theorem exec_stored {i : MemCommand} {s t : State} (ready : Ready (i.transfer s.eng) s) (hchecks : debugChecks s.eng = false)
    (h : exec i.instr s = .next t) {k : Nat} (hk : k < i.nout) :
    memRead t.mem (outAddr s.eng k) 4 = ((i.work s.mem s.eng).words.getD k 0).toNat := by
  rw [exec_memCommand, perform_ready ready (by rw [hchecks, Bool.and_false])] at h
  cases h
  have hfit := outSpan_le_of_regionRefusal ready.regions
  have hlen := work_words_length i s.mem s.eng
  rw [transfer_nout, ← hlen] at hfit
  exact memRead_outAddr _ hfit (hlen ▸ hk)

/-- Settles O53: both commands run the same passes on the same conditioned block. -/
theorem flipEquivalence : Obligations.FlipEquivalence := by
  intro sh t b1 b2 s1 s2 t1 t2 hsmp ready1 ready2 hchecks1 hchecks2 h1 h2 k hk
  have hwords : (MemCommand.work s2.mem s2.eng (.block sh (partner t) b2)).words =
      (MemCommand.work s1.mem s1.eng (.block sh t b1)).words := by
    simp only [MemCommand.work, blockWork_words, shapePasses_partner, shapeBlock_partner hsmp]
  rw [exec_stored (i := .block sh t b1) ready1 hchecks1 h1 hk,
    exec_stored (i := .block sh (partner t) b2) ready2 hchecks2 h2 hk, hwords]

end Sys2Proof.Machine
end

section
/-! PROOFS, the dispatch table (46_transform_2d.md R149 to R156, R160 to R178) and the scaling stages (R150, R153): what every cell
agrees with, how long input scaling can make a sample, and that a scaling stage makes no lane longer. -/

namespace Sys2Proof.Machine

/-! ### The dispatch table -/

theorem recordWord_dispatch (sh : Shape) (t : TxType) :
    (dispatchRom sh)[(txCode t).toNat]? = some (recordWord (dispatch sh t)) := by
  cases sh <;> cases t <;> rfl

/-- Settles O50: each of the 304 cells by evaluation, and the types by their codes. -/
theorem dispatchWords : Obligations.DispatchWords := by
  refine ⟨recordWord_dispatch, fun sh => by cases sh <;> rfl, fun tt => ⟨fun hle => ?_, (txTypeOf_eq_none_iff tt).2⟩⟩
  have hsome : txTypeOf tt ≠ none := fun hnone => by
    have := (txTypeOf_eq_none_iff tt).1 hnone
    omega
  obtain ⟨t, ht⟩ := Option.ne_none_iff_exists'.1 hsome
  exact ⟨t, ht, txCode_of_txTypeOf ht⟩

/-- The sides that a shape can have. -/
theorem shape_sides (sh : Shape) : shapeWidth sh ∈ [4, 8, 16, 32, 64] ∧ shapeHeight sh ∈ [4, 8, 16, 32, 64] := by
  cases sh <;> decide

/-- A side of a shape has a kernel of every kind (R149). -/
theorem kernelFor_side (k : Kind) {n : Nat} (hn : n ∈ [4, 8, 16, 32, 64]) :
    kernelFor k n = some ((kernelFor k n).getD .wht4) := by
  revert n
  cases k <;> decide

theorem passOrder_eq_colsFirst_iff (sh : Shape) : passOrder sh = .colsFirst ↔ shapeHeight sh < shapeWidth sh := by
  rw [passOrder]
  split <;> simp_all

/-- The scale table by the sides of the shape (R155). -/
theorem scaleTable_values (sh : Shape) :
    ((scaleTable sh).inSqrt2 = true ↔ shapeWidth sh = 2 * shapeHeight sh ∨ shapeHeight sh = 2 * shapeWidth sh) ∧
      (scaleTable sh).inUp ∈ [0, 2, 4] ∧ (scaleTable sh).midShift ∈ [0, 2, 4] ∧ (scaleTable sh).outShift ∈ [0, 1, 2] := by
  cases sh <;> decide

/-- Settles O51: the kernels by their sides, the scaling by the scale table, the order by its definition. -/
theorem shapeTables : Obligations.ShapeTables := by
  intro sh t
  obtain ⟨hrow, hcol⟩ := kernelLen_dispatch sh t
  obtain ⟨hwidth, hheight⟩ := shape_sides sh
  obtain ⟨hsqrt2, hup, hmid, hout⟩ := scaleTable_values sh
  exact ⟨hrow, hcol, kernelFor_side _ hwidth, kernelFor_side _ hheight, passOrder_eq_colsFirst_iff sh, hsqrt2, hup, hmid, hout,
    (shapeNout_eq_noutTable sh).symm, shapeNout_eq_noutTable sh⟩

/-! ### Input scaling and the scaling stages -/

theorem toInt_signExtend_sample (x : Sample) : (x.signExtend 32).toInt = x.toInt := BitVec.toInt_signExtend_of_le (by decide)

theorem sample_range (x : Sample) : -(2 ^ 15) ≤ x.toInt ∧ x.toInt < 2 ^ 15 := by
  have lo := BitVec.le_toInt x
  have hi := BitVec.toInt_lt (x := x)
  omega

/-- `SHL` of a lane whose multiple is a lane. -/
theorem exact_shl {a : Lane} {k : Nat} (lo : -(2 ^ 31) ≤ 2 ^ k * a.toInt) (hi : 2 ^ k * a.toInt < 2 ^ 31) :
    Exact (shl a k) (BitVec.ofInt 32 (2 ^ k * a.toInt)) := by
  rw [shl, mul_comm]
  exact exact_narrowS _ lo hi

/-- `MULC(a, SQRT2)` of a lane of at most 30 bits. -/
theorem exact_mulc_sqrt2 {a : Lane} (lo : -(2 ^ 30) ≤ a.toInt) (hi : a.toInt < 2 ^ 30) :
    Exact (mulc a sqrt2) (BitVec.ofInt 32 ((a.toInt * 23170 + 8192) / 16384)) :=
  exact_bind (exact_roundShift14 (a.toInt * 23170) (by omega) (by omega)) (exact_narrowS _ (by omega) (by omega))

/-- What input scaling by the constants of `row` makes of the number `x` (R150). -/
def scaledInput (row : ScaleRow) (x : Int) : Int :=
  if row.inSqrt2 then (2 ^ row.inUp * x * 23170 + 8192) / 16384 else 2 ^ row.inUp * x

theorem inScale_dispatch (sh : Shape) (t : TxType) (x : Lane) :
    inScale (dispatch sh t) x = shlSqrt2 (scaleTable sh).inUp (scaleTable sh).inSqrt2 x := rfl

/-- A sample is shifted to at most 20 bits. -/
theorem shifted_sample_range (sh : Shape) (x : Sample) :
    -(2 ^ 19) ≤ 2 ^ (scaleTable sh).inUp * x.toInt ∧ 2 ^ (scaleTable sh).inUp * x.toInt < 2 ^ 19 := by
  have hx := sample_range x
  have hup : (scaleTable sh).inUp ≤ 4 := by cases sh <;> decide
  interval_cases (scaleTable sh).inUp <;> omega

theorem exact_inScale_sample (sh : Shape) (t : TxType) (x : Sample) :
    Exact (inScale (dispatch sh t) (x.signExtend 32)) (BitVec.ofInt 32 (scaledInput (scaleTable sh) x.toInt)) := by
  have hrange := shifted_sample_range sh x
  have hshl := exact_shl (a := x.signExtend 32) (k := (scaleTable sh).inUp)
    (by rw [toInt_signExtend_sample]; omega) (by rw [toInt_signExtend_sample]; omega)
  rw [toInt_signExtend_sample] at hshl
  have hy := toInt_ofInt_of_range (2 ^ (scaleTable sh).inUp * x.toInt) (by omega) (by omega)
  rw [inScale_dispatch, scaledInput]
  cases (scaleTable sh).inSqrt2 with
  | false => exact exact_bind hshl (exact_pure _)
  | true =>
    refine exact_bind hshl ?_
    have hmulc := exact_mulc_sqrt2 (a := BitVec.ofInt 32 (2 ^ (scaleTable sh).inUp * x.toInt)) (by omega) (by omega)
    rwa [hy] at hmulc

/-- The largest magnitude that input scaling by the constants of `row` makes of a sample, the square root of two taken as 3/2. -/
def inputReach (row : ScaleRow) : Nat := if row.inSqrt2 then 3 * 2 ^ (row.inUp + 14) else 2 ^ (row.inUp + 15)

theorem abs_scaledInput_le (row : ScaleRow) (x : Sample) : |scaledInput row x.toInt| ≤ inputReach row := by
  have hx : |2 ^ row.inUp * x.toInt| ≤ 2 ^ row.inUp * 2 ^ 15 := by
    have := sample_range x
    rw [abs_mul, abs_of_pos (by positivity)]
    exact mul_le_mul_of_nonneg_left (abs_le.2 (by omega)) (by positivity)
  have hup : (1 : Int) ≤ 2 ^ row.inUp := one_le_pow₀ (by norm_num)
  rw [abs_le] at hx ⊢
  rw [scaledInput, inputReach]
  split <;> push_cast <;> rw [pow_add] <;> omega

theorem inputReach_le (sh : Shape) : inputReach (scaleTable sh) ≤ 2 ^ 20 := by cases sh <;> decide

theorem toInt_scaledInput (sh : Shape) (x : Sample) :
    (BitVec.ofInt 32 (scaledInput (scaleTable sh) x.toInt)).toInt = scaledInput (scaleTable sh) x.toInt := by
  obtain ⟨lo, hi⟩ := abs_le.1 (abs_scaledInput_le (scaleTable sh) x)
  have := inputReach_le sh
  exact toInt_ofInt_of_range _ (by omega) (by omega)

/-- A rounded lane lies between 0 and the lane, so it is a lane. -/
theorem roundShiftSigned_lane_range (v : Lane) (n : Nat) :
    -(2 ^ 31) ≤ roundShiftSigned v.toInt n ∧ roundShiftSigned v.toInt n < 2 ^ 31 := by
  have hv := lane_range v
  rcases le_total 0 v.toInt with h | h
  · obtain ⟨lo, hi⟩ := roundShiftSigned_mem_Icc n h
    omega
  · obtain ⟨lo, hi⟩ := roundShiftSigned_mem_Icc n (neg_nonneg.2 h)
    rw [roundShiftSigned_neg] at lo hi
    omega

/-- The lane that a scaling stage of `n` bits makes of `v` (R153). -/
def shiftedLane (n : Nat) (v : Lane) : Lane := BitVec.ofInt 32 (roundShiftSigned v.toInt n)

theorem toInt_shiftedLane (n : Nat) (v : Lane) : (shiftedLane n v).toInt = roundShiftSigned v.toInt n := by
  obtain ⟨lo, hi⟩ := roundShiftSigned_lane_range v n
  exact toInt_ofInt_of_range _ lo hi

theorem shiftedLane_zero (n : Nat) : shiftedLane n 0 = 0 := by
  rw [shiftedLane, toInt_zero_lane, roundShiftSigned_zero]
  rfl

theorem abs_shiftedLane_le (n : Nat) (v : Lane) : |(shiftedLane n v).toInt| ≤ |v.toInt| := by
  rw [toInt_shiftedLane]
  exact abs_roundShiftSigned_le v.toInt n

theorem exact_scale (n : Nat) (v : Lane) : Exact (scale n v) (shiftedLane n v) := by
  obtain ⟨lo, hi⟩ := roundShiftSigned_lane_range v n
  exact exact_narrowS _ lo hi

/-- Settles O59: a sample shifted by at most 4 leaves room for the square root of two, and a scaling stage makes no lane longer. -/
theorem scaling : Obligations.Scaling := by
  refine ⟨fun sh t x b => ?_, fun n v b => ?_⟩
  · exact ⟨_, (exact_inScale_sample sh t x).run b, toInt_scaledInput sh x⟩
  · exact ⟨_, (exact_scale n v).run b, toInt_shiftedLane n v, abs_shiftedLane_le n v⟩

end Sys2Proof.Machine
end

section
/-! PROOFS, completion of a command with operands (46_transform_2d.md R159), and for the `FHT*` commands which element of the grid
the passes leave each output word is (47_repack_and_misc_commands.md R190, R191). -/

namespace Sys2Proof.Machine

/-! ### Completion -/

/-- A command on ready operands, in budget or with the checks off, completes with the words it computed. -/
theorem exec_completes {i : MemCommand} {s : State} (ready : Ready (i.transfer s.eng) s)
    (hbudget : ((i.work s.mem s.eng).computed.viol && debugChecks s.eng) = false) :
    ∃ s', exec i.instr s = .next s' ∧ Completed (i.transfer s.eng) (i.work s.mem s.eng).words s s' := by
  have hlen : (i.work s.mem s.eng).words.length = (i.transfer s.eng).nout := by rw [work_words_length, transfer_nout]
  have hfit := outSpan_le_of_regionRefusal ready.regions
  have hfinished := (work_visible i s.mem s.eng).2
  refine ⟨_, (exec_memCommand i s).trans (perform_ready ready hbudget), ?_⟩
  exact {
    length := hlen
    stored := fun k hk => memRead_outAddr _ (hlen ▸ hfit) (hlen ▸ hk)
    outside := fun a ha => by
      refine readByte_writeWords_outside _ _ _ _ fun hin => ?_
      refine ha ((a - s.eng.dst.toNat) / 4) (by omega) ?_
      rw [outAddr, Nat.mod_eq_of_lt (by omega)]
      omega
    registers := by
      rw [← hfinished, ← show (i.work s.mem s.eng).finished.status = s.eng.status from congrArg Visible.status hfinished]
      rfl
    others := ⟨rfl, rfl⟩
    hosts := ⟨rfl, rfl, rfl, rfl⟩
    recorded := rfl }

/-! ### Zeroing and packing -/

/-- Zeroing clears the elements of frequency 32 and above (R190). -/
theorem at2_zeroHigh (g : List (List Lane)) (r c : Nat) :
    at2 (zeroHigh g) r c = if Config.keepDim ≤ r ∨ Config.keepDim ≤ c then 0 else at2 g r c := by
  simp only [at2, lane, zeroHigh, List.getD_eq_getElem?_getD, List.getElem?_map, List.getElem?_zipIdx]
  cases hrow : g[r]? with
  | none => simp
  | some row =>
    cases hlane : row[c]? with
    | none => simp [hlane]
    | some v => simp [hlane]

/-- Element `r * n + c` of rows of length `n`, put together. -/
theorem flatten_getD {α : Type} {n : Nat} {l : List (List α)} (d : α) (hl : ∀ row ∈ l, row.length = n) {r c : Nat}
    (hc : c < n) : l.flatten.getD (r * n + c) d = (l.getD r []).getD c d := by
  induction l generalizing r with
  | nil => rfl
  | cons row l ih =>
    have hrow : row.length = n := hl row (by simp)
    rw [List.flatten_cons]
    cases r with
    | zero => rw [Nat.zero_mul, Nat.zero_add, List.getD_append _ _ _ _ (hrow ▸ hc)]; rfl
    | succ r =>
      rw [List.getD_append_right _ _ _ _ (by rw [Nat.succ_mul]; omega), List.getD_cons_succ,
        ← ih fun x hx => hl x (by simp [hx])]
      congr 1
      rw [Nat.succ_mul]
      omega

/-- Packing lists the kept elements row by row (R191). -/
theorem packWords_getD {w h : Nat} {g : List (List Lane)} (hg : IsGrid h w g) {r c : Nat} (hr : r < kept h) (hc : c < kept w) :
    (packWords w h g).getD (r * kept w + c) 0 = at2 g r c := by
  have hrows : ∀ row ∈ (g.take (kept h)).map (List.take (kept w)), row.length = kept w := by
    intro row hmem
    obtain ⟨row', hrow', rfl⟩ := List.mem_map.1 hmem
    rw [List.length_take, hg.2 row' (List.mem_of_mem_take hrow')]
    exact min_eq_left (min_le_left _ _)
  rw [packWords, List.flatMap_def, flatten_getD 0 hrows hc, at2, lane]
  simp only [List.getD_eq_getElem?_getD, List.getElem?_map, List.getElem?_take_of_lt hr]
  cases hrow : g[r]? with
  | none => simp
  | some row => simp [List.getElem?_take_of_lt hc]

theorem blockWork_words_getD (sh : Shape) (t : TxType) {x : List (List Sample)} (e : Engine)
    (hx : IsGrid (shapeHeight sh) (shapeWidth sh) x) {r c : Nat} (hr : r < kept (shapeHeight sh)) (hc : c < kept (shapeWidth sh)) :
    (blockWork sh t x e).words.getD (r * kept (shapeWidth sh) + c) 0 = at2 ((shapePasses sh t x).run false).1.res r c := by
  have hres := (shapePasses_fits sh t hx false).res
  have hlow : ∀ {n i : Nat}, i < kept n → ¬ Config.keepDim ≤ i := fun h => Nat.not_le.2 (lt_of_lt_of_le h (min_le_right _ _))
  rw [blockWork_words, packWords_getD (isGrid_zeroHigh hres) hr hc, at2_zeroHigh, if_neg (not_or.2 ⟨hlow hr, hlow hc⟩)]

/-- Settles O26: a ready command completes with its words, and those are the kept elements row by row. -/
theorem fhtCompletes : Obligations.FhtCompletes := by
  intro sh t hbd s p ready hbudget
  obtain ⟨s', hexec, hcompleted⟩ := exec_completes (i := .block sh t hbd) ready (by
    rw [Bool.and_eq_false_imp]
    exact hbudget)
  have hblock := isGrid_shapeBlock sh t hbd s.mem s.eng
  exact ⟨s', _, hexec, hcompleted, fun r c hr hc => blockWork_words_getD sh t s.eng hblock hr hc⟩

end Sys2Proof.Machine
end

section
/-! PROOFS, the two passes of a shape in either order (46_transform_2d.md R147, R151, R152): one kernel along the rows or the columns,
the other across. From this the laws (b), (c) and (e) of R179: the block of zeros, the constant block, and transposition. -/

namespace Sys2Proof.Machine

/-! ### Grids -/

theorem at2_columns {n c : Nat} (g : List (List Lane)) (r : Nat) (hc : c < n) : at2 (columns n g) c r = at2 g r c := by
  simp only [at2, lane, columns, List.getD_eq_getElem?_getD, List.getElem?_map, List.getElem?_range hc, Option.map_some,
    Option.getD_some]
  cases g[r]? <;> rfl

/-- The samples as the lanes that input scaling takes (R150). -/
def blockLanes (x : List (List Sample)) : List (List Lane) := x.map fun row => row.map (BitVec.signExtend 32)

/-- The columns of a conditioned block are the block of the transposed samples, conditioned with the two flips exchanged. -/
theorem columns_blockLanes_condition (f : FlipClass) (w h : Nat) (smp : Nat → Nat → Sample) :
    columns w (blockLanes (condition f w h smp)) = blockLanes (condition ⟨f.ud, f.lr⟩ h w fun r c => smp c r) := by
  simp only [columns, blockLanes, condition, List.map_map]
  refine List.map_congr_left fun c hc => ?_
  rw [Function.comp, List.map_map]
  refine List.map_congr_left fun r _ => ?_
  simp [lane, List.mem_range.1 hc]

/-! ### The two passes -/

/-- One kernel along the vectors `vs`, the other across the `n` lanes of what it leaves, both with the scaling of `row`. -/
def crossPasses (n : Nat) (along across : Kernel) (row : ScaleRow) (vs : List (List Lane)) : Calc (List (List Lane)) := do
  let p ← pass along (shlSqrt2 row.inUp row.inSqrt2) (scale row.midShift) vs
  let q ← pass across pure (scale row.outShift) (columns n (p.map Prod.snd))
  pure (q.map Prod.snd)

/-- A shape that is not wider than tall runs the row kernel along the rows (R151). -/
theorem shapePasses_rowsFirst {sh : Shape} (hle : shapeWidth sh ≤ shapeHeight sh) (t : TxType) (x : List (List Sample))
    (b : Bool) :
    let T := (crossPasses (shapeWidth sh) (dispatch sh t).rowk (dispatch sh t).colk (scaleTable sh) (blockLanes x)).run b
    ((shapePasses sh t x).run b).1.res = columns (shapeHeight sh) T.1 ∧ ((shapePasses sh t x).run b).2 = T.2 := by
  have horder : (dispatch sh t).order = .rowsFirst := if_neg (Nat.not_lt.2 hle)
  rw [shapePasses, passes, horder]
  exact ⟨rfl, rfl⟩

/-- A shape wider than tall runs the column kernel along the columns (R152). -/
theorem shapePasses_colsFirst {sh : Shape} (hlt : shapeHeight sh < shapeWidth sh) (t : TxType) (x : List (List Sample))
    (b : Bool) :
    let T := (crossPasses (shapeHeight sh) (dispatch sh t).colk (dispatch sh t).rowk (scaleTable sh)
      (columns (shapeWidth sh) (blockLanes x))).run b
    ((shapePasses sh t x).run b).1.res = T.1 ∧ ((shapePasses sh t x).run b).2 = T.2 := by
  have horder : (dispatch sh t).order = .colsFirst := if_pos hlt
  rw [shapePasses, passes, horder]
  exact ⟨rfl, rfl⟩

/-! ### Transposition (R179 (e)) -/

@[simp] theorem turned_turned (sh : Shape) : turned (turned sh) = sh := by cases sh <;> rfl

@[simp] theorem swapped_swapped (t : TxType) : swapped (swapped t) = t := by cases t <;> rfl

@[simp] theorem shapeWidth_turned (sh : Shape) : shapeWidth (turned sh) = shapeHeight sh := by cases sh <;> rfl

@[simp] theorem shapeHeight_turned (sh : Shape) : shapeHeight (turned sh) = shapeWidth sh := by cases sh <;> rfl

@[simp] theorem scaleTable_turned (sh : Shape) : scaleTable (turned sh) = scaleTable sh := by cases sh <;> rfl

theorem flipClass_swapped (t : TxType) : flipClass (swapped t) = ⟨(flipClass t).ud, (flipClass t).lr⟩ := by cases t <;> rfl

theorem horizontalKind_swapped (t : TxType) : horizontalKind (swapped t) = verticalKind t := by cases t <;> rfl

theorem verticalKind_swapped (t : TxType) : verticalKind (swapped t) = horizontalKind t := by cases t <;> rfl

theorem rowk_turned (sh : Shape) (t : TxType) : (dispatch (turned sh) (swapped t)).rowk = (dispatch sh t).colk := by
  rw [dispatch, shapeWidth_turned, horizontalKind_swapped]
  rfl

theorem colk_turned (sh : Shape) (t : TxType) : (dispatch (turned sh) (swapped t)).colk = (dispatch sh t).rowk := by
  rw [dispatch, shapeHeight_turned, verticalKind_swapped]
  rfl

/-- The passes on the conditioned block of the samples `smp`. -/
def samplePasses (sh : Shape) (t : TxType) (smp : Nat → Nat → Sample) : Passes × Bool :=
  (shapePasses sh t (condition (flipClass t) (shapeWidth sh) (shapeHeight sh) smp)).run false

/-- A shape taller than wide goes along its rows, the turned one along its columns: the two passes are the same. -/
theorem samplePasses_turned {sh : Shape} (hlt : shapeWidth sh < shapeHeight sh) (t : TxType) (smp : Nat → Nat → Sample) :
    (∀ r c, r < shapeHeight sh → at2 (samplePasses sh t smp).1.res r c =
      at2 (samplePasses (turned sh) (swapped t) fun r c => smp c r).1.res c r) ∧
    (samplePasses sh t smp).2 = (samplePasses (turned sh) (swapped t) fun r c => smp c r).2 := by
  obtain ⟨hres, hbit⟩ := shapePasses_rowsFirst hlt.le t (condition (flipClass t) (shapeWidth sh) (shapeHeight sh) smp) false
  obtain ⟨hres', hbit'⟩ := shapePasses_colsFirst (sh := turned sh) (by simpa using hlt) (swapped t)
    (condition (flipClass (swapped t)) (shapeWidth (turned sh)) (shapeHeight (turned sh)) fun r c => smp c r) false
  rw [columns_blockLanes_condition, rowk_turned, colk_turned, flipClass_swapped, scaleTable_turned, shapeWidth_turned,
    shapeHeight_turned] at hres' hbit'
  rw [samplePasses, samplePasses, hbit, flipClass_swapped, shapeWidth_turned, shapeHeight_turned, hbit', hres, hres']
  exact ⟨fun r c hr => at2_columns _ c hr, rfl⟩

/-- Of a shape and the turned one, the taller goes along its rows and the wider along its columns. -/
theorem samplePasses_eq_turned {sh : Shape} (hne : shapeWidth sh ≠ shapeHeight sh) (t : TxType) (smp : Nat → Nat → Sample) :
    (∀ r c, r < shapeHeight sh → c < shapeWidth sh → at2 (samplePasses sh t smp).1.res r c =
      at2 (samplePasses (turned sh) (swapped t) fun r c => smp c r).1.res c r) ∧
    (samplePasses sh t smp).2 = (samplePasses (turned sh) (swapped t) fun r c => smp c r).2 := by
  rcases lt_or_gt_of_ne hne with hlt | hgt
  · obtain ⟨hres, hbit⟩ := samplePasses_turned hlt t smp
    exact ⟨fun r c hr _ => hres r c hr, hbit⟩
  · obtain ⟨hres, hbit⟩ := samplePasses_turned (sh := turned sh) (by simpa using hgt) (swapped t) fun r c => smp c r
    simp only [turned_turned, swapped_swapped, shapeHeight_turned] at hres hbit
    exact ⟨fun r c _ hc => (hres c r hc).symm, hbit.symm⟩

/-- Settles O54: a shape and the turned one run the same two passes, the columns of the one being the rows of the other. -/
theorem transposition : Obligations.Transposition := by
  intro sh t smp hne
  have h := samplePasses_eq_turned hne t smp
  rwa [samplePasses, samplePasses, shapeWidth_turned, shapeHeight_turned] at h

/-! ### Constant blocks (R179 (b), (c)) -/

/-- A grid of `n + 1` rows and `m + 1` columns whose one element that may differ from zero is `e`, in the corner. -/
def cornerGrid (n m : Nat) (e : Lane) : List (List Lane) :=
  (e :: List.replicate m 0) :: List.replicate n (List.replicate (m + 1) 0)

theorem at2_cornerGrid (n m : Nat) (e : Lane) (r c : Nat) : at2 (cornerGrid n m e) r c = if r = 0 ∧ c = 0 then e else 0 := by
  cases r with
  | zero =>
    cases c with
    | zero => rfl
    | succ c => exact lane_replicate_zero m c
  | succ r =>
    rw [if_neg (by omega), at2, cornerGrid, List.getD_cons_succ, List.getD_eq_getElem?_getD, List.getElem?_replicate]
    split
    · exact lane_replicate_zero _ c
    · rfl

/-- The columns of equal rows `(d, 0, .., 0)`: one constant column, the others zeros. -/
theorem columns_replicate (m n : Nat) (d : Lane) :
    columns (n + 1) (List.replicate m (d :: List.replicate n 0)) = List.replicate m d :: List.replicate n (List.replicate m 0) := by
  rw [columns, List.range_succ_eq_map, List.map_cons, List.map_map]
  congr 1
  · rw [List.map_replicate]
    rfl
  · refine List.eq_replicate_iff.2 ⟨by simp, fun col hcol => ?_⟩
    obtain ⟨c, _, rfl⟩ := List.mem_map.1 hcol
    rw [Function.comp, List.map_replicate]
    exact congrArg (List.replicate m) (lane_replicate_zero n c)

theorem kernelLen_eq_succ (k : Kernel) : kernelLen k = kernelLen k - 1 + 1 := by cases k <;> rfl

/-- In one vector of a pass, a kernel takes the constant vector of `v` to `(e, 0, .., 0)`, in budget. -/
def Collapses (k : Kernel) (pre post : Lane → Calc Lane) (v e : Lane) : Prop :=
  ∃ run, Exact (passVector k pre post (List.replicate (kernelLen k) v)) (run, e :: List.replicate (kernelLen k - 1) 0)

theorem exact_pass_replicate {k : Kernel} {pre post : Lane → Calc Lane} {v o : List Lane} {run : KernelRun}
    (h : Exact (passVector k pre post v) (run, o)) (m : Nat) :
    Exact (pass k pre post (List.replicate m v)) (List.replicate m (run, o)) := by
  have := exact_mapM (g := fun _ => (run, o)) (List.replicate m v) fun x hx => List.eq_of_mem_replicate hx ▸ h
  rwa [List.map_replicate] at this

theorem exact_pass_cons {k : Kernel} {pre post : Lane → Calc Lane} {v o : List Lane} {run : KernelRun} {vs : List (List Lane)}
    {p : List (KernelRun × List Lane)} (h : Exact (passVector k pre post v) (run, o)) (hvs : Exact (pass k pre post vs) p) :
    Exact (pass k pre post (v :: vs)) ((run, o) :: p) := by
  rw [pass, List.mapM_cons]
  exact exact_bind h (exact_bind hvs (exact_pure _))

/-- Two passes on equal constant vectors leave the corner. -/
theorem exact_crossPasses_constant {along across : Kernel} {row : ScaleRow} {v d e : Lane}
    (halong : Collapses along (shlSqrt2 row.inUp row.inSqrt2) (scale row.midShift) v d)
    (hacross : Collapses across pure (scale row.outShift) d e) (hzero : Collapses across pure (scale row.outShift) 0 0) :
    Exact (crossPasses (kernelLen along) along across row (List.replicate (kernelLen across) (List.replicate (kernelLen along) v)))
      (cornerGrid (kernelLen along - 1) (kernelLen across - 1) e) := by
  obtain ⟨run, hrun⟩ := halong
  obtain ⟨runD, hrunD⟩ := hacross
  obtain ⟨run0, hrun0⟩ := hzero
  have hcolumns := columns_replicate (kernelLen across) (kernelLen along - 1) d
  rw [← kernelLen_eq_succ] at hcolumns
  refine exact_bind (exact_pass_replicate hrun _) ?_
  rw [List.map_replicate, hcolumns]
  have hpass := exact_pass_cons hrunD (exact_pass_replicate hrun0 (kernelLen along - 1))
  have hgrid := exact_bind (f := fun q => pure (q.map Prod.snd)) hpass (exact_pure _)
  rwa [List.map_cons, List.map_replicate] at hgrid

/-- The passes on the samples `smp` stay in budget and leave `e` in the corner of the grid and zeros elsewhere. -/
structure LeavesCorner (sh : Shape) (t : TxType) (smp : Nat → Nat → Sample) (e : Lane) : Prop where
  budget : (samplePasses sh t smp).2 = false
  res : ∀ r c, r < shapeHeight sh → c < shapeWidth sh →
    at2 (samplePasses sh t smp).1.res r c = if r = 0 ∧ c = 0 then e else 0

/-- The samples of a shape are all `v`. -/
def ConstantOn (sh : Shape) (smp : Nat → Nat → Sample) (v : Sample) : Prop :=
  ∀ r c, r < shapeHeight sh → c < shapeWidth sh → smp r c = v

theorem blockLanes_constant {sh : Shape} {smp : Nat → Nat → Sample} {v : Sample} (f : FlipClass) (h : ConstantOn sh smp v) :
    blockLanes (condition f (shapeWidth sh) (shapeHeight sh) smp) =
      List.replicate (shapeHeight sh) (List.replicate (shapeWidth sh) (v.signExtend 32)) := by
  have hcond : condition f (shapeWidth sh) (shapeHeight sh) smp = condition f (shapeWidth sh) (shapeHeight sh) fun _ _ => v :=
    condition_ext fun r c hr hc => h _ _ (flipIndex_lt _ hr) (flipIndex_lt _ hc)
  rw [hcond, blockLanes, condition, List.map_const', List.map_const', List.length_range, List.length_range, List.map_replicate,
    List.map_replicate]

/-- A constant block at a shape that is not wider than tall. -/
theorem leavesCorner_of_le {sh : Shape} {t : TxType} {smp : Nat → Nat → Sample} {v : Sample} {d e : Lane}
    (hle : shapeWidth sh ≤ shapeHeight sh) (hv : ConstantOn sh smp v)
    (hrow : Collapses (dispatch sh t).rowk (inScale (dispatch sh t)) (scale (scaleTable sh).midShift) (v.signExtend 32) d)
    (hcol : Collapses (dispatch sh t).colk pure (scale (scaleTable sh).outShift) d e)
    (hzero : Collapses (dispatch sh t).colk pure (scale (scaleTable sh).outShift) 0 0) : LeavesCorner sh t smp e := by
  obtain ⟨hwidth, hheight⟩ := kernelLen_dispatch sh t
  obtain ⟨hres, hbit⟩ := shapePasses_rowsFirst hle t (condition (flipClass t) (shapeWidth sh) (shapeHeight sh) smp) false
  have hcross := (exact_crossPasses_constant (row := scaleTable sh) hrow hcol hzero).run false
  rw [hwidth, hheight, ← blockLanes_constant _ hv] at hcross
  rw [hcross] at hres hbit
  refine ⟨hbit, fun r c hr hc => ?_⟩
  rw [samplePasses, hres, at2_columns _ _ hr, at2_cornerGrid]
  exact if_congr and_comm rfl rfl

/-- Of a shape and the turned one, the wider leaves the corner that the taller does. -/
theorem LeavesCorner.of_turned {sh : Shape} {t : TxType} {smp : Nat → Nat → Sample} {e : Lane}
    (hlt : shapeHeight sh < shapeWidth sh) (h : LeavesCorner (turned sh) (swapped t) (fun r c => smp c r) e) :
    LeavesCorner sh t smp e := by
  obtain ⟨hres, hbit⟩ := samplePasses_eq_turned hlt.ne' t smp
  refine ⟨hbit.trans h.budget, fun r c hr hc => ?_⟩
  rw [hres r c hr hc, h.res c r (by simpa using hc) (by simpa using hr)]
  exact if_congr and_comm rfl rfl

/-- A kernel run that leaves `(d, 0, .., 0)` of a constant vector collapses it, whatever the scaling around it. -/
theorem collapses_of_runKernel {k : Kernel} {pre : Lane → Calc Lane} {v y d : Lane} {run : KernelRun} (n : Nat)
    (hpre : Exact (pre v) y) (hrun : Exact (runKernel k (List.replicate (kernelLen k) y)) run)
    (hvout : run.vout = d :: List.replicate (kernelLen k - 1) 0) : Collapses k pre (scale n) v (shiftedLane n d) := by
  have hin := exact_mapM (g := fun _ => y) (List.replicate (kernelLen k) v) fun x hx => List.eq_of_mem_replicate hx ▸ hpre
  have hout := exact_mapM run.vout fun x _ => exact_scale n x
  rw [List.map_replicate] at hin
  rw [hvout, List.map_cons, List.map_replicate, shiftedLane_zero, ← hvout] at hout
  exact ⟨run, exact_bind hin (exact_bind hrun (exact_bind hout (exact_pure _)))⟩

/-- Every kernel takes zeros to zeros. -/
theorem collapses_zero (k : Kernel) {pre : Lane → Calc Lane} (n : Nat) (hpre : Exact (pre 0) 0) :
    Collapses k pre (scale n) 0 0 := by
  obtain ⟨run, hrun, hvout⟩ := runsToZeros_runKernel k
  rw [kernelLen_eq_succ] at hvout
  have := collapses_of_runKernel n hpre hrun hvout
  rwa [shiftedLane_zero] at this

/-- The DCT kernels. -/
def IsDct (k : Kernel) : Prop := k = .fdct4 ∨ k = .fdct8 ∨ k = .fdct16 ∨ k = .fdct32 ∨ k = .fdct64

theorem isDct_dispatch (sh : Shape) : IsDct (dispatch sh .dctDct).rowk ∧ IsDct (dispatch sh .dctDct).colk := by
  unfold IsDct
  cases sh <;> decide

/-- A DCT kernel collapses a constant vector whose sum fits, and the sum bounds what it leaves. -/
theorem collapses_dct {k : Kernel} (hk : IsDct k) {pre : Lane → Calc Lane} {v y : Lane} (n : Nat) (hpre : Exact (pre v) y)
    (hy : |kernelLen k * y.toInt| < 2 ^ 30) : ∃ d, Collapses k pre (scale n) v d ∧ |d.toInt| ≤ |kernelLen k * y.toInt| := by
  obtain ⟨hvout, hbit⟩ := dctConstant k hk y false hy
  obtain ⟨r, w, hcharges, -⟩ := runsOn_runKernel k (List.replicate (kernelLen k) y)
  obtain ⟨run, hrun⟩ := hcharges.uniform.exact hbit
  rw [hrun.run] at hvout
  refine ⟨_, collapses_of_runKernel n hpre hrun hvout, ?_⟩
  refine (abs_shiftedLane_le n _).trans ?_
  generalize (kernelLen k : Int) * y.toInt = p at hy
  rw [abs_lt] at hy
  rw [toInt_ofInt_of_range _ (by omega) (by omega), abs_le]
  rcases abs_cases p with ⟨hp, _⟩ | ⟨hp, _⟩ <;> omega

/-! ### The laws -/

theorem ConstantOn.turned {sh : Shape} {smp : Nat → Nat → Sample} {v : Sample} (h : ConstantOn sh smp v) :
    ConstantOn (turned sh) (fun r c => smp c r) v :=
  fun r c hr hc => h c r (by simpa using hc) (by simpa using hr)

/-- A block of zeros leaves zeros, at every shape and type. -/
theorem leavesCorner_zero (sh : Shape) (t : TxType) {smp : Nat → Nat → Sample} (hv : ConstantOn sh smp 0) :
    LeavesCorner sh t smp 0 := by
  have tall {sh : Shape} (t : TxType) {smp : Nat → Nat → Sample} (hle : shapeWidth sh ≤ shapeHeight sh)
      (hv : ConstantOn sh smp 0) : LeavesCorner sh t smp 0 :=
    leavesCorner_of_le hle hv (collapses_zero _ _ (exact_shlSqrt2_zero _ _)) (collapses_zero _ _ (exact_pure 0))
      (collapses_zero _ _ (exact_pure 0))
  rcases le_or_gt (shapeWidth sh) (shapeHeight sh) with hle | hlt
  · exact tall t hle hv
  · exact .of_turned hlt (tall (swapped t) (by simpa using hlt.le) hv.turned)

theorem abs_natCast_mul_le (n : Nat) {x b : Int} (h : |x| ≤ b) : |(n : Int) * x| ≤ n * b := by
  rw [abs_mul, Nat.abs_cast]
  exact mul_le_mul_of_nonneg_left h (Nat.cast_nonneg n)

/-- The sum of a constant block stays below `2 ^ 30` through both passes. -/
theorem block_sum_lt (sh : Shape) : shapeHeight sh * (shapeWidth sh * inputReach (scaleTable sh)) < 2 ^ 30 := by
  cases sh <;> decide

/-- A constant block under DCT_DCT leaves a corner, at every shape. -/
theorem leavesCorner_dct (sh : Shape) {smp : Nat → Nat → Sample} {v : Sample} (hv : ConstantOn sh smp v) :
    ∃ e, LeavesCorner sh .dctDct smp e := by
  have tall {sh : Shape} {smp : Nat → Nat → Sample} (hle : shapeWidth sh ≤ shapeHeight sh) (hv : ConstantOn sh smp v) :
      ∃ e, LeavesCorner sh .dctDct smp e := by
    obtain ⟨hwidth, hheight⟩ := kernelLen_dispatch sh .dctDct
    obtain ⟨hrowk, hcolk⟩ := isDct_dispatch sh
    have hinput := exact_inScale_sample sh .dctDct v
    have hy := toInt_scaledInput sh v
    have hfirst : |(shapeWidth sh : Int) * scaledInput (scaleTable sh) v.toInt| ≤ shapeWidth sh * inputReach (scaleTable sh) :=
      abs_natCast_mul_le _ (abs_scaledInput_le _ v)
    have hsum : (shapeHeight sh : Int) * (shapeWidth sh * inputReach (scaleTable sh)) < 2 ^ 30 := by
      exact_mod_cast block_sum_lt sh
    have hheight1 : 1 ≤ shapeHeight sh := by cases sh <;> decide
    have hwide : (shapeWidth sh : Int) * inputReach (scaleTable sh) ≤
        shapeHeight sh * (shapeWidth sh * inputReach (scaleTable sh)) :=
      le_mul_of_one_le_left (by positivity) (by exact_mod_cast hheight1)
    obtain ⟨d, hd, hdle⟩ := collapses_dct hrowk (scaleTable sh).midShift hinput (by
      rw [hwidth, hy]
      exact (hfirst.trans hwide).trans_lt hsum)
    rw [hwidth, hy] at hdle
    obtain ⟨e, he, -⟩ := collapses_dct hcolk (scaleTable sh).outShift (exact_pure d) (by
      rw [hheight]
      exact (abs_natCast_mul_le _ (hdle.trans hfirst)).trans_lt hsum)
    exact ⟨e, leavesCorner_of_le hle hv hd he (collapses_zero _ _ (exact_pure 0))⟩
  rcases le_or_gt (shapeWidth sh) (shapeHeight sh) with hle | hlt
  · exact tall hle hv
  · obtain ⟨e, he⟩ := tall (by simpa using hlt.le) hv.turned
    exact ⟨e, .of_turned hlt he⟩

theorem noutTable_eq_succ (sh : Shape) : noutTable sh = noutTable sh - 1 + 1 := by cases sh <;> rfl

/-- The words of a block that leaves a corner: word 0, and zeros. -/
theorem words_of_leavesCorner {sh : Shape} {t : TxType} {hbd : Bool} {m : Memory} {e : Engine} {d : Lane}
    (h : LeavesCorner sh t (sample m e hbd) d) :
    (MemCommand.work m e (.block sh t hbd)).words = d :: List.replicate (noutTable sh - 1) 0 := by
  have hlen : (MemCommand.work m e (.block sh t hbd)).words.length = noutTable sh := work_words_length _ m e
  have hnout : noutTable sh = kept (shapeHeight sh) * kept (shapeWidth sh) := by cases sh <;> rfl
  have hwidth : 0 < kept (shapeWidth sh) := by cases sh <;> decide
  have hword (k : Nat) (hk : k < noutTable sh) :
      (MemCommand.work m e (.block sh t hbd)).words.getD k 0 = if k = 0 then d else 0 := by
    have hr : k / kept (shapeWidth sh) < kept (shapeHeight sh) := Nat.div_lt_of_lt_mul (by rwa [Nat.mul_comm, ← hnout])
    have hc := Nat.mod_lt k hwidth
    have := blockWork_words_getD sh t e (isGrid_shapeBlock sh t hbd m e) hr hc
    rw [Nat.div_add_mod'] at this
    refine this.trans ((h.res _ _ (lt_of_lt_of_le hr (min_le_left _ _)) (lt_of_lt_of_le hc (min_le_left _ _))).trans ?_)
    refine if_congr ⟨fun hzero => ?_, fun hzero => by simp [hzero]⟩ rfl rfl
    rw [← Nat.div_add_mod' k (kept (shapeWidth sh)), hzero.1, hzero.2, Nat.zero_mul]
  refine List.ext_getElem (by rw [hlen, List.length_cons, List.length_replicate, ← noutTable_eq_succ]) fun k hk _ => ?_
  rw [← List.getD_eq_getElem _ 0 hk, hword k (hlen ▸ hk)]
  cases k <;> simp

/-- Settles O55: zeros are a constant block, which every kernel collapses to zero. -/
theorem zeroBlock : Obligations.ZeroBlock := by
  intro sh t hbd m e hv
  have hcorner := leavesCorner_zero sh t hv
  refine ⟨?_, hcorner.budget⟩
  rw [words_of_leavesCorner hcorner, noutTable_eq_succ sh]
  rfl

/-- Settles O56: in both passes a DCT kernel collapses a constant vector. -/
theorem constantBlock : Obligations.ConstantBlock := by
  intro sh hbd m e v hv
  obtain ⟨d, hd⟩ := leavesCorner_dct sh hv
  exact ⟨d, words_of_leavesCorner hd⟩

end Sys2Proof.Machine
end

section
/-! PROOFS, the budget of the `FHT*` commands (46_transform_2d.md R179 (f); 60_exceptions.md R203). A kernel makes a lane longer by at most
a factor that its length fixes, its reach: for a DCT by the lanes of its network one by one, for an ADST stage by stage. The input
scaling and the reaches of the two sides of a shape stay inside a lane, so no narrowing is out of budget. -/

namespace Sys2Proof.Machine

/-! ### Calculations in budget whose answer meets a predicate -/

/-- The calculation stays in budget and its answer meets `P`. -/
def InBudget {α : Type} (c : Calc α) (P : α → Prop) : Prop := ∃ v, Exact c v ∧ P v

theorem inBudget_pure {α : Type} {P : α → Prop} {v : α} (h : P v) : InBudget (pure v : Calc α) P := ⟨v, exact_pure v, h⟩

theorem inBudget_bind {α β : Type} {c : Calc α} {f : α → Calc β} {P : α → Prop} {Q : β → Prop} (hc : InBudget c P)
    (hf : ∀ a, P a → InBudget (f a) Q) : InBudget (c >>= f) Q := by
  obtain ⟨a, ha, hP⟩ := hc
  obtain ⟨b, hb, hQ⟩ := hf a hP
  exact ⟨b, exact_bind ha hb, hQ⟩

theorem InBudget.mono {α : Type} {c : Calc α} {P Q : α → Prop} (h : InBudget c P) (hPQ : ∀ a, P a → Q a) : InBudget c Q := by
  obtain ⟨v, hv, hP⟩ := h
  exact ⟨v, hv, hPQ v hP⟩

theorem inBudget_mapM {α β : Type} {f : α → Calc β} {P : β → Prop} (xs : List α) (h : ∀ x ∈ xs, InBudget (f x) P) :
    InBudget (xs.mapM f) fun ys => ∀ y ∈ ys, P y := by
  induction xs with
  | nil => exact inBudget_pure (by simp)
  | cons x xs ih =>
    rw [List.mapM_cons]
    exact inBudget_bind (h x (by simp)) fun y hy =>
      inBudget_bind (ih fun z hz => h z (by simp [hz])) fun ys hys => inBudget_pure (List.forall_mem_cons.2 ⟨hy, hys⟩)

/-! ### Lanes of bounded length -/

/-- A lane of magnitude at most `n`. -/
structure Short (n : Int) (a : Lane) : Prop where
  le : |a.toInt| ≤ n

/-- A vector of lanes of magnitude at most `n`. -/
def Within (n : Int) (v : List Lane) : Prop := ∀ a ∈ v, Short n a

theorem Short.mono {n m : Int} {a : Lane} (h : Short n a) (hle : n ≤ m) : Short m a := ⟨h.le.trans hle⟩

theorem Within.mono {n m : Int} {v : List Lane} (h : Within n v) (hle : n ≤ m) : Within m v := fun a ha => (h a ha).mono hle

/-- What holds of the elements of a vector, and of 0, holds of its lanes. -/
theorem forall_lane {P : Lane → Prop} (h0 : P 0) {v : List Lane} (hv : ∀ a ∈ v, P a) (i : Nat) : P (lane v i) := by
  rw [lane]
  rcases lt_or_ge i v.length with hi | hi
  · rw [List.getD_eq_getElem _ _ hi]
    exact hv _ (List.getElem_mem hi)
  · rwa [List.getD_eq_default _ _ hi]

theorem short_zero {n : Int} (hn : 0 ≤ n) : Short n 0 := ⟨hn⟩

theorem Within.lane {n : Int} {v : List Lane} (h : Within n v) (hn : 0 ≤ n) (i : Nat) : Short n (lane v i) :=
  forall_lane (short_zero hn) h i

theorem inBudget_narrowS {n v : Int} (hv : |v| ≤ n) (hn : n < 2 ^ 31) : InBudget (narrowS v) (Short n) := by
  have hrange := abs_le.1 hv
  refine ⟨_, exact_narrowS v (by omega) (by omega), ⟨?_⟩⟩
  rwa [toInt_ofInt_of_range v (by omega) (by omega)]

theorem inBudget_add {n m : Int} {a b : Lane} (ha : Short n a) (hb : Short m b) (hn : n + m < 2 ^ 31) :
    InBudget (add a b) (Short (n + m)) :=
  inBudget_narrowS ((abs_add_le _ _).trans (add_le_add ha.le hb.le)) hn

theorem inBudget_sub {n m : Int} {a b : Lane} (ha : Short n a) (hb : Short m b) (hn : n + m < 2 ^ 31) :
    InBudget (sub a b) (Short (n + m)) :=
  inBudget_narrowS ((abs_sub _ _).trans (add_le_add ha.le hb.le)) hn

theorem inBudget_neg {n : Int} {a : Lane} (ha : Short n a) (hn : n < 2 ^ 31) : InBudget (neg a) (Short n) :=
  inBudget_narrowS ((abs_neg _).trans_le ha.le) hn

theorem abs_weighted_sum_le (w0 w1 x y : Int) : |w0 * x + w1 * y| ≤ |w0| * |x| + |w1| * |y| := by
  rw [← abs_mul, ← abs_mul]
  exact abs_add_le _ _

/-- `RS14` of a number well inside the working width is one narrowing. -/
theorem inBudget_rs14_of_narrowS {p : Int} {P : Lane → Prop} (hp : |p| < 2 ^ 62) (h : InBudget (narrowS ((p + 8192) / 16384)) P) :
    InBudget (rs14 p) P := by
  have hrange := abs_lt.1 hp
  obtain ⟨a, ha, hP⟩ := h
  exact ⟨a, exact_bind (exact_narrowW p (by omega) (by omega)) (exact_bind (exact_roundShift14 p (by omega) hrange.2) ha), hP⟩

theorem inBudget_rs14 {n p : Int} (hp : |p| ≤ 16384 * n) (hn : n < 2 ^ 31) : InBudget (rs14 p) (Short n) := by
  refine inBudget_rs14_of_narrowS (by omega) (inBudget_narrowS ?_ hn)
  rw [abs_le] at hp ⊢
  omega

/-! ### DCT networks -/

/-- The reach of lane `i`, in units of `2^-14` times the longest lane of the input; one before the first stage. -/
def reachAt (b : List Nat) (i : Nat) : Nat := b.getD i 16384

/-- The reach of a lane of a stage, from those of the stage before: a rotation rounds up, and once more for its own rounding. -/
def laneReach (b : List Nat) : LaneOp → Nat
  | .copy i => reachAt b i
  | .add i j | .sub i j => reachAt b i + reachAt b j
  | .rot w0 i w1 j =>
    ((weightValue w0).natAbs * reachAt b i + (weightValue w1).natAbs * reachAt b j) / 16384 + 2

/-- No lane of any stage of a network reaches further than `n` times the longest lane of the input. -/
def netReaches (n : Nat) : List (List LaneOp) → List Nat → Bool
  | [], _ => true
  | stage :: rest, b =>
    let b' := stage.map (laneReach b)
    b'.all (fun g => decide (g ≤ 16384 * n)) && netReaches n rest b'

/-- Every lane of `v` is within its reach, `B` being the longest lane of the input. -/
def Reached (B : Int) (b : List Nat) (v : List Lane) : Prop := ∀ i, 16384 * |(lane v i).toInt| ≤ reachAt b i * B

theorem reached_input {B : Int} (hB : 0 ≤ B) {v : List Lane} (h : Within B v) : Reached B [] v :=
  fun i => mul_le_mul_of_nonneg_left (h.lane hB i).le (by norm_num)

/-- The lanes of a stage, each within the reach that its operation has. -/
theorem reached_map {B : Int} (hB : 0 ≤ B) {stage : List LaneOp} {b : List Nat} {g : LaneOp → Lane}
    (h : ∀ op ∈ stage, 16384 * |(g op).toInt| ≤ laneReach b op * B) : Reached B (stage.map (laneReach b)) (stage.map g) := by
  intro i
  rw [lane, reachAt, List.getD_eq_getElem?_getD, List.getD_eq_getElem?_getD, List.getElem?_map, List.getElem?_map]
  cases hop : stage[i]? with
  | none => exact mul_nonneg (by norm_num) hB
  | some op => exact h op (List.mem_of_getElem? hop)

/-- The reach of the product sum of a rotation, before `RS14`, in units of `2^-28`. -/
theorem abs_rotation_le {B x y : Int} {g h : Nat} (w0 w1 : Int) (hx : 16384 * |x| ≤ g * B) (hy : 16384 * |y| ≤ h * B) :
    16384 * |w0 * x + w1 * y| ≤ (w0.natAbs * g + w1.natAbs * h : Nat) * B := by
  have hsum := abs_weighted_sum_le w0 w1 x y
  have h0 := mul_le_mul_of_nonneg_left hx (abs_nonneg w0)
  have h1 := mul_le_mul_of_nonneg_left hy (abs_nonneg w1)
  push_cast
  linarith

/-- One lane of a stage. The half unit that a rotation may be rounded by is at most `2^-14` of the longest lane when that is `2^13`. -/
theorem inBudget_runLaneOp {B : Int} {n : Nat} (hB : 8192 ≤ B) (hn : n * B < 2 ^ 31) {b : List Nat} {v : List Lane} {op : LaneOp}
    (hv : Reached B b v) (hop : laneReach b op ≤ 16384 * n) :
    InBudget (runLaneOp v op) fun a => 16384 * |a.toInt| ≤ laneReach b op * B := by
  have hreach : (laneReach b op : Int) * B ≤ 16384 * (n * B) := by
    rw [← mul_assoc]
    exact mul_le_mul_of_nonneg_right (by exact_mod_cast hop) (by omega)
  have narrow {x : Int} (hx : 16384 * |x| ≤ laneReach b op * B) :
      InBudget (narrowS x) fun a => 16384 * |a.toInt| ≤ laneReach b op * B := by
    have hrange : |x| < 2 ^ 31 := by omega
    rw [abs_lt] at hrange
    refine ⟨_, exact_narrowS x (by omega) (by omega), ?_⟩
    dsimp only
    rwa [toInt_ofInt_of_range x (by omega) (by omega)]
  cases op with
  | copy i => exact inBudget_pure (hv i)
  | add i j =>
    refine narrow ?_
    have := abs_add_le (lane v i).toInt (lane v j).toInt
    have hi := hv i
    have hj := hv j
    rw [laneReach, Nat.cast_add, add_mul]
    omega
  | sub i j =>
    refine narrow ?_
    have := abs_sub (lane v i).toInt (lane v j).toInt
    have hi := hv i
    have hj := hv j
    rw [laneReach, Nat.cast_add, add_mul]
    omega
  | rot w0 i w1 j =>
    have hsum := abs_rotation_le (weightValue w0) (weightValue w1) (hv i) (hv j)
    rw [laneReach] at hreach narrow ⊢
    change InBudget (rs14 (weightValue w0 * (lane v i).toInt + weightValue w1 * (lane v j).toInt)) _
    generalize weightValue w0 * (lane v i).toInt + weightValue w1 * (lane v j).toInt = p at hsum
    generalize (weightValue w0).natAbs * reachAt b i + (weightValue w1).natAbs * reachAt b j = g at hsum hreach narrow
    have hup : (g : Int) * B ≤ 16384 * ((g / 16384 : Nat) + 1) * B := mul_le_mul_of_nonneg_right (by omega) (by omega)
    rw [mul_assoc, add_mul] at hup
    rw [Nat.cast_add, add_mul] at hreach
    refine inBudget_rs14_of_narrowS (by omega) (narrow ?_)
    rw [Nat.cast_add, add_mul]
    have hp : |p| ≤ (g / 16384 : Nat) * B + 1 * B := by omega
    have hround := abs_le.1 hp
    rcases abs_cases ((p + 8192) / 16384) with ⟨habs, _⟩ | ⟨habs, _⟩ <;> omega

theorem inBudget_runStages {B : Int} {n : Nat} (hB : 8192 ≤ B) (hn : n * B < 2 ^ 31) (net : List (List LaneOp)) {b : List Nat}
    {v : List Lane} (hnet : netReaches n net b = true) (hv : Reached B b v) (hw : Within (n * B) v) :
    InBudget (runStages net v) fun bs => bs ≠ [] ∧ Within (n * B) (lastStage bs) := by
  induction net generalizing b v with
  | nil => exact inBudget_pure ⟨by simp, hw⟩
  | cons stage net ih =>
    rw [netReaches, Bool.and_eq_true, List.all_map, List.all_eq_true] at hnet
    obtain ⟨hstage, hrest⟩ := hnet
    have hlane (op : LaneOp) (hop : op ∈ stage) := inBudget_runLaneOp hB hn hv (of_decide_eq_true (hstage op hop))
    choose! g hg using hlane
    have hrun : Exact (runStage stage v) (stage.map g) := exact_mapM stage fun op hop => (hg op hop).1
    have hwithin : Within (n * B) (stage.map g) := by
      intro a ha
      obtain ⟨op, hop, rfl⟩ := List.mem_map.1 ha
      have h1 := (hg op hop).2
      have h2 : (laneReach b op : Int) * B ≤ 16384 * n * B :=
        mul_le_mul_of_nonneg_right (by exact_mod_cast of_decide_eq_true (hstage op hop)) (by omega)
      exact ⟨by linarith⟩
    obtain ⟨bs, hbs, hne, hlast⟩ := ih hrest (reached_map (by omega) fun op hop => (hg op hop).2) hwithin
    exact ⟨_, exact_bind hrun (exact_bind hbs (exact_pure _)), by simp, by rwa [lastStage_cons _ hne]⟩

/-- A network that reaches `n` times the longest lane of its input. -/
theorem inBudget_net {B : Int} {n : Nat} (hB : 8192 ≤ B) (hn1 : 1 ≤ n) (hn : n * B < 2 ^ 31) {net : List (List LaneOp)}
    (hnet : netReaches n net [] = true) {v : List Lane} (hv : Within B v) :
    InBudget (runStages net v) fun bs => Within (n * B) (lastStage bs) := by
  have hle : B ≤ n * B := le_mul_of_one_le_left (by omega) (by exact_mod_cast hn1)
  exact (inBudget_runStages hB hn net hnet (reached_input (by omega) hv) (hv.mono hle)).mono fun _ h => h.2

/-! ### The ADST kernels -/

/-! Every `RS14` of R121 and R122 is one of a rotation, or of the sum of two rotations, of lanes: with the differences written as sums the
weights of a rotation are, up to their signs, a cosine and the sine of the same angle. -/

/-- A rotation of two lanes makes neither component longer than the square root of two times the longer lane. -/
theorem abs_rotation {c d n : Int} {a b : Lane} (hcd : c.natAbs + d.natAbs ≤ 23171) (ha : Short n a) (hb : Short n b) :
    |c * a.toInt + d * b.toInt| ≤ 23171 * n := by
  have hn : 0 ≤ n := (abs_nonneg _).trans ha.le
  calc |c * a.toInt + d * b.toInt|
    _ ≤ |c| * |a.toInt| + |d| * |b.toInt| := abs_weighted_sum_le c d a.toInt b.toInt
    _ ≤ |c| * n + |d| * n :=
      add_le_add (mul_le_mul_of_nonneg_left ha.le (abs_nonneg c)) (mul_le_mul_of_nonneg_left hb.le (abs_nonneg d))
    _ = (|c| + |d|) * n := (add_mul _ _ _).symm
    _ ≤ 23171 * n := by
      rw [Int.abs_eq_natAbs, Int.abs_eq_natAbs]
      exact mul_le_mul_of_nonneg_right (by exact_mod_cast hcd) hn

theorem inBudget_rs14_rotation {c d n : Int} {a b : Lane} (hcd : c.natAbs + d.natAbs ≤ 23171) (ha : Short n a) (hb : Short n b)
    (hn : 2 * n < 2 ^ 31) : InBudget (rs14 (c * a.toInt + d * b.toInt)) (Short (2 * n)) := by
  have hsum := abs_rotation hcd ha hb
  have := (abs_nonneg _).trans ha.le
  exact inBudget_rs14 (by omega) hn

theorem inBudget_rs14_rotations {c d c' d' n : Int} {a b a' b' : Lane} (hcd : c.natAbs + d.natAbs ≤ 23171)
    (hcd' : c'.natAbs + d'.natAbs ≤ 23171) (ha : Short n a) (hb : Short n b) (ha' : Short n a') (hb' : Short n b') (hn : 3 * n < 2 ^ 31) :
    InBudget (rs14 (c * a.toInt + d * b.toInt + (c' * a'.toInt + d' * b'.toInt))) (Short (3 * n)) := by
  have hsum := abs_add_le (c * a.toInt + d * b.toInt) (c' * a'.toInt + d' * b'.toInt)
  have hs := abs_rotation hcd ha hb
  have ht := abs_rotation hcd' ha' hb'
  have := (abs_nonneg _).trans ha.le
  exact inBudget_rs14 (by omega) hn

/-! The counts below are those of the listings of R121 and R122, stage by stage. -/

theorem inBudget_fadst8 {B : Int} (hB : 0 ≤ B) (hn : 32 * B < 2 ^ 31) {v : List Lane} (hv : Within B v) :
    InBudget (fadst8 v) (Within (32 * B)) := by
  have hlane := hv.lane hB
  unfold fadst8
  simp only [turn, turnBack, sub_eq_add_neg, mul_add, neg_add, mul_neg, neg_mul_eq_neg_mul]
  iterate 8
    refine inBudget_bind (inBudget_rs14_rotations (by decide) (by decide) (hlane _) (hlane _) (hlane _) (hlane _) (by omega))
      fun _ _ => ?_
  iterate 2 refine inBudget_bind (inBudget_add ‹_› ‹_› (by omega)) fun _ _ => ?_
  iterate 2 refine inBudget_bind (inBudget_sub ‹_› ‹_› (by omega)) fun _ _ => ?_
  iterate 4 refine inBudget_bind (inBudget_rs14_rotations (by decide) (by decide) ‹_› ‹_› ‹_› ‹_› (by omega)) fun _ _ => ?_
  iterate 4 refine inBudget_bind (inBudget_rs14_rotation (by decide) ‹_› ‹_› (by omega)) fun _ _ => ?_
  iterate 4 refine inBudget_bind (inBudget_neg ‹_› (by omega)) fun _ _ => ?_
  refine inBudget_pure ?_
  simp only [Within, List.forall_mem_cons]
  refine ⟨?_, ?_, ?_, ?_, ?_, ?_, ?_, ?_, by simp⟩ <;> exact Short.mono ‹_› (by omega)

theorem inBudget_fadst16 {B : Int} (hB : 0 ≤ B) (hn : 64 * B < 2 ^ 31) {v : List Lane} (hv : Within B v) :
    InBudget (fadst16 v) (Within (64 * B)) := by
  have hlane := hv.lane hB
  unfold fadst16
  simp only [turn, turnBack, sub_eq_add_neg, mul_add, neg_add, mul_neg, neg_mul_eq_neg_mul]
  iterate 16
    refine inBudget_bind (inBudget_rs14_rotations (by decide) (by decide) (hlane _) (hlane _) (hlane _) (hlane _) (by omega))
      fun _ _ => ?_
  iterate 4 refine inBudget_bind (inBudget_add ‹_› ‹_› (by omega)) fun _ _ => ?_
  iterate 4 refine inBudget_bind (inBudget_sub ‹_› ‹_› (by omega)) fun _ _ => ?_
  iterate 8 refine inBudget_bind (inBudget_rs14_rotations (by decide) (by decide) ‹_› ‹_› ‹_› ‹_› (by omega)) fun _ _ => ?_
  iterate 2 refine inBudget_bind (inBudget_add ‹_› ‹_› (by omega)) fun _ _ => ?_
  iterate 2 refine inBudget_bind (inBudget_sub ‹_› ‹_› (by omega)) fun _ _ => ?_
  iterate 4 refine inBudget_bind (inBudget_rs14_rotations (by decide) (by decide) ‹_› ‹_› ‹_› ‹_› (by omega)) fun _ _ => ?_
  iterate 2 refine inBudget_bind (inBudget_add ‹_› ‹_› (by omega)) fun _ _ => ?_
  iterate 2 refine inBudget_bind (inBudget_sub ‹_› ‹_› (by omega)) fun _ _ => ?_
  iterate 4 refine inBudget_bind (inBudget_rs14_rotations (by decide) (by decide) ‹_› ‹_› ‹_› ‹_› (by omega)) fun _ _ => ?_
  iterate 8 refine inBudget_bind (inBudget_rs14_rotation (by decide) ‹_› ‹_› (by omega)) fun _ _ => ?_
  iterate 4 refine inBudget_bind (inBudget_neg ‹_› (by omega)) fun _ _ => ?_
  refine inBudget_pure ?_
  simp only [Within, List.forall_mem_cons]
  refine ⟨?_, ?_, ?_, ?_, ?_, ?_, ?_, ?_, ?_, ?_, ?_, ?_, ?_, ?_, ?_, ?_, by simp⟩ <;> exact Short.mono ‹_› (by omega)

/-! ### Scaled lanes -/

theorem inBudget_shl {n : Int} {a : Lane} (k : Nat) (ha : Short n a) (hn : 2 ^ k * n < 2 ^ 31) :
    InBudget (shl a k) (Short (2 ^ k * n)) := by
  refine inBudget_narrowS ?_ hn
  rw [mul_comm, abs_mul, abs_of_pos (by positivity)]
  exact mul_le_mul_of_nonneg_left ha.le (by positivity)

theorem inBudget_mulc {n : Int} {a : Lane} (ha : Short n a) (hn : 2 * n < 2 ^ 31) : InBudget (mulc a sqrt2) (Short (2 * n)) := by
  have hrange := abs_le.1 ha.le
  refine ⟨_, exact_mulc_sqrt2 (by omega) (by omega), ⟨?_⟩⟩
  rw [toInt_ofInt_of_range _ (by omega) (by omega), abs_le]
  omega

/-- A shift, and where `root` says a multiplication by the square root of two, which is below 2. -/
theorem inBudget_shlSqrt2 {n : Int} {a : Lane} (k : Nat) (root : Bool) (ha : Short n a) (hn : 2 * (2 ^ k * n) < 2 ^ 31) :
    InBudget (shlSqrt2 k root a) (Short (2 * (2 ^ k * n))) := by
  have hpos : 0 ≤ 2 ^ k * n := mul_nonneg (by positivity) ((abs_nonneg _).trans ha.le)
  refine inBudget_bind (inBudget_shl k ha (by omega)) fun y hy => ?_
  cases root with
  | false => exact inBudget_pure (hy.mono (by omega))
  | true => exact inBudget_mulc hy hn

/-- In a kernel the shift is at most 2. -/
theorem inBudget_shlSqrt2_kernel {n : Int} {a : Lane} {k : Nat} (root : Bool) (hk : k ≤ 2) (ha : Short n a)
    (hn : 8 * n < 2 ^ 31) : InBudget (shlSqrt2 k root a) (Short (8 * n)) := by
  have hn0 : 0 ≤ n := (abs_nonneg _).trans ha.le
  have hpow : 2 ^ k * n ≤ 4 * n := mul_le_mul_of_nonneg_right (pow_le_pow_right₀ (by norm_num) hk) hn0
  exact (inBudget_shlSqrt2 k root ha (by omega)).mono fun _ h => h.mono (by omega)

theorem inBudget_mapM_short {n m : Int} {f : Lane → Calc Lane} {v : List Lane} (hv : Within n v)
    (hf : ∀ a, Short n a → InBudget (f a) (Short m)) : InBudget (v.mapM f) (Within m) :=
  inBudget_mapM v fun a ha => hf a (hv a ha)

theorem inBudget_fadst4 {B : Int} (hB : 0 ≤ B) (hn : 16 * B < 2 ^ 31) {v : List Lane} (hv : Within B v) :
    InBudget (fadst4 v) (Within (16 * B)) := by
  have hsums : ∀ p ∈ fadst4Sums (lane v 0) (lane v 1) (lane v 2) (lane v 3), |p| ≤ 16384 * (3 * B) := by
    have h0 := abs_le.1 (hv.lane hB 0).le
    have h1 := abs_le.1 (hv.lane hB 1).le
    have h2 := abs_le.1 (hv.lane hB 2).le
    have h3 := abs_le.1 (hv.lane hB 3).le
    simp only [fadst4Sums, List.forall_mem_cons, List.not_mem_nil, false_implies, implies_true, and_true, abs_le]
    omega
  have hrun := inBudget_mapM _ fun p hp => inBudget_rs14 (hsums p hp) (by omega)
  rw [← fadst4_eq_mapM_rs14] at hrun
  exact hrun.mono fun o ho a ha => (ho a ha).mono (by omega)

/-! ### The kernels -/

/-- The factor by which a kernel of length `n` can make a lane longer. -/
def sideReach (n : Nat) : Nat := if n ≤ 16 then 4 * n else 2 * n

/-- The kernel stays in budget on vectors of lanes of magnitude at most `B`, and makes no lane longer than `n * B`. -/
def Reaches (B : Int) (n : Nat) (c : Calc KernelRun) : Prop := InBudget c fun r => Within (n * B) r.vout

theorem reaches_runDct {B : Int} {n m : Nat} (hB : 8192 ≤ B) {net : List (List LaneOp)} {v : List Lane} (hv : Within B v)
    (hnet : netReaches m net [] = true) (hm : 1 ≤ m ∧ m ≤ n) (hn : n * B < 2 ^ 31) : Reaches B n (runDct net v) := by
  have hle : (m : Int) * B ≤ n * B := mul_le_mul_of_nonneg_right (by exact_mod_cast hm.2) (by omega)
  exact inBudget_bind (inBudget_net hB hm.1 (by omega) hnet hv) fun bs hbs => inBudget_pure (hbs.mono hle)

/-- A half-right kernel: its first half is scaled by at most 8, its second by at most 2 before the network. -/
theorem reaches_runHalfRight {B : Int} {n m k : Nat} (half : Nat) (root : Bool) (hB : 8192 ≤ B) {net : List (List LaneOp)}
    {v : List Lane} (hv : Within B v) (hk : k ≤ 2) (hnet : netReaches m net [] = true) (hm : 4 ≤ m ∧ 2 * m ≤ n)
    (hn : n * B < 2 ^ 31) : Reaches B n (runHalfRight half (shlSqrt2 k root) net v) := by
  have htake : Within B (v.take half) := fun a ha => hv a (List.mem_of_mem_take ha)
  have hdrop : Within B (v.drop half) := fun a ha => hv a (List.mem_of_mem_drop ha)
  have hm8 : 8 * B ≤ n * B := mul_le_mul_of_nonneg_right (by omega) (by omega)
  have hm2 : (m : Int) * (2 * B) ≤ n * B := by
    rw [← mul_assoc, mul_comm (m : Int)]
    exact mul_le_mul_of_nonneg_right (by omega) (by omega)
  refine inBudget_bind (inBudget_mapM_short htake fun a ha => inBudget_shlSqrt2_kernel root hk ha (by omega)) fun high hhigh => ?_
  refine inBudget_bind (inBudget_mapM_short hdrop fun a ha => inBudget_mulc ha (by omega)) fun h hh => ?_
  refine inBudget_bind (inBudget_net (by omega) (by omega) (by omega) hnet hh) fun bs hbs => inBudget_pure ?_
  exact List.forall_mem_append.2 ⟨hbs.mono hm2, hhigh.mono hm8⟩

theorem reaches_runPlain {B : Int} {n : Nat} {f : List Lane → Calc (List Lane)} {v : List Lane}
    (h : InBudget (f v) (Within (n * B))) : Reaches B n (runPlain f v) :=
  inBudget_bind h fun _ ho => inBudget_pure ho

/-- An identity kernel other than that of length 4: every lane is scaled by at most 8. -/
theorem reaches_identity {B : Int} {n k : Nat} (root : Bool) (hB : 0 ≤ B) {v : List Lane} (hv : Within B v) (hk : k ≤ 2)
    (hn8 : 8 ≤ n) (hn : n * B < 2 ^ 31) : Reaches B n (runPlain (List.mapM (shlSqrt2 k root)) v) := by
  have hle : 8 * B ≤ n * B := mul_le_mul_of_nonneg_right (by exact_mod_cast hn8) hB
  exact reaches_runPlain (inBudget_mapM_short hv fun a ha =>
    (inBudget_shlSqrt2_kernel root hk ha (by omega)).mono fun _ h => h.mono hle)

theorem reaches_fidtx4 {B : Int} (hB : 0 ≤ B) {v : List Lane} (hv : Within B v) (hn : 16 * B < 2 ^ 31) :
    Reaches B 16 (runPlain fidtx4 v) :=
  reaches_runPlain (inBudget_mapM_short hv fun _ ha => (inBudget_mulc ha (by omega)).mono fun _ h => h.mono (by omega))

/-- A kernel other than WHT4, which no cell of the dispatch table has. -/
theorem reaches_runKernel {B : Int} (hB : 8192 ≤ B) {k : Kernel} (hk : k ≠ .wht4) (hn : sideReach (kernelLen k) * B < 2 ^ 31)
    {v : List Lane} (hv : Within B v) : Reaches B (sideReach (kernelLen k)) (runKernel k v) := by
  have hB0 : 0 ≤ B := by omega
  cases k with
  | fdct4 => exact reaches_runDct (m := 4) hB hv (by decide) (by decide) hn
  | fdct8 => exact reaches_runDct (m := 8) hB hv (by decide) (by decide) hn
  | fdct16 => exact reaches_runDct (m := 16) hB hv (by decide) (by decide) hn
  | fdct32 => exact reaches_runDct (m := 40) hB hv (by decide) (by decide) hn
  | fdct64 => exact reaches_runDct (m := 96) hB hv (by decide) (by decide) hn
  | fadst4 => exact reaches_runPlain (inBudget_fadst4 hB0 hn hv)
  | fadst8 => exact reaches_runPlain (inBudget_fadst8 hB0 hn hv)
  | fadst16 => exact reaches_runPlain (inBudget_fadst16 hB0 hn hv)
  | fhalfright32 => exact reaches_runHalfRight (m := 16) 16 false hB hv (by decide) (by decide) (by decide) hn
  | fhalfright64 => exact reaches_runHalfRight (m := 40) 32 true hB hv (by decide) (by decide) (by decide) hn
  | fidtx4 => exact reaches_fidtx4 hB0 hv hn
  | fidtx8 => exact reaches_identity (k := 1) false hB0 hv (by decide) (by decide) hn
  | fidtx16 => exact reaches_identity (k := 1) true hB0 hv (by decide) (by decide) hn
  | fidtx32 => exact reaches_identity (k := 2) false hB0 hv (by decide) (by decide) hn
  | fidtx64 => exact reaches_identity (k := 2) true hB0 hv (by decide) (by decide) hn
  | wht4 => exact absurd rfl hk

/-! ### The passes -/

theorem inBudget_passVector {B : Int} {k : Kernel} (hk : k ≠ .wht4) {pre : Lane → Calc Lane} {v : List Lane} (n : Nat)
    (hB : 8192 ≤ B) (hn : sideReach (kernelLen k) * B < 2 ^ 31) (hpre : ∀ a ∈ v, InBudget (pre a) (Short B)) :
    InBudget (passVector k pre (scale n) v) fun x => Within (sideReach (kernelLen k) * B) x.2 := by
  refine inBudget_bind (inBudget_mapM v hpre) fun vin hvin => ?_
  refine inBudget_bind (reaches_runKernel hB hk hn hvin) fun run hrun => ?_
  refine inBudget_bind (inBudget_mapM_short hrun fun a ha => ?_) fun out hout => inBudget_pure hout
  exact ⟨_, exact_scale n a, ⟨(abs_shiftedLane_le n a).trans ha.le⟩⟩

theorem inBudget_pass {B : Int} {k : Kernel} (hk : k ≠ .wht4) {pre : Lane → Calc Lane} {vs : List (List Lane)} (n : Nat)
    (hB : 8192 ≤ B) (hn : sideReach (kernelLen k) * B < 2 ^ 31) (hpre : ∀ v ∈ vs, ∀ a ∈ v, InBudget (pre a) (Short B)) :
    InBudget (pass k pre (scale n) vs) fun p => ∀ v ∈ p.map Prod.snd, Within (sideReach (kernelLen k) * B) v :=
  (inBudget_mapM vs fun v hv => inBudget_passVector hk n hB hn (hpre v hv)).mono fun _ hp => List.forall_mem_map.2 hp

/-- What holds of the elements of a grid, and of 0, holds of those of its columns. -/
theorem forall_columns {P : Lane → Prop} (h0 : P 0) {g : List (List Lane)} (hg : ∀ row ∈ g, ∀ a ∈ row, P a) (n : Nat) :
    ∀ col ∈ columns n g, ∀ a ∈ col, P a := by
  intro col hcol a ha
  obtain ⟨c, _, rfl⟩ := List.mem_map.1 hcol
  obtain ⟨row, hrow, rfl⟩ := List.mem_map.1 ha
  exact forall_lane h0 (hg row hrow) c

theorem one_le_sideReach (k : Kernel) : 1 ≤ sideReach (kernelLen k) := by cases k <;> decide

/-- Both passes stay in budget when a lane has room for the reaches of the two kernels. -/
theorem inBudget_crossPasses {B : Int} {along across : Kernel} {row : ScaleRow} {vs : List (List Lane)} (n : Nat)
    (halong : along ≠ .wht4) (hacross : across ≠ .wht4) (hB : 8192 ≤ B)
    (hfit : sideReach (kernelLen across) * (sideReach (kernelLen along) * B) < 2 ^ 31)
    (hvs : ∀ v ∈ vs, ∀ a ∈ v, InBudget (shlSqrt2 row.inUp row.inSqrt2 a) (Short B)) :
    InBudget (crossPasses n along across row vs) fun _ => True := by
  have hmid : B ≤ sideReach (kernelLen along) * B := le_mul_of_one_le_left (by omega) (by exact_mod_cast one_le_sideReach along)
  have hout : (sideReach (kernelLen along) : Int) * B ≤ sideReach (kernelLen across) * (sideReach (kernelLen along) * B) :=
    le_mul_of_one_le_left (by omega) (by exact_mod_cast one_le_sideReach across)
  refine inBudget_bind (inBudget_pass halong row.midShift hB (by omega) hvs) fun p hp => ?_
  have hcolumns := forall_columns (P := Short (sideReach (kernelLen along) * B)) (short_zero (by omega)) hp n
  refine inBudget_bind (inBudget_pass hacross row.outShift (by omega) hfit fun v hv a ha => inBudget_pure (hcolumns v hv a ha)) ?_
  exact fun q _ => inBudget_pure trivial

/-! ### The commands -/

theorem dispatch_ne_wht4 (sh : Shape) (t : TxType) : (dispatch sh t).rowk ≠ .wht4 ∧ (dispatch sh t).colk ≠ .wht4 := by
  have side (k : Kind) (n : Nat) (hn : n ∈ [4, 8, 16, 32, 64]) : (kernelFor k n).getD .wht4 ≠ .wht4 := by
    revert n
    cases k <;> decide
  exact ⟨side _ _ (shape_sides sh).1, side _ _ (shape_sides sh).2⟩

/-- A lane has room for a sample, scaled and made longer by the reach of both sides. -/
theorem shape_fits (sh : Shape) :
    8192 ≤ inputReach (scaleTable sh) ∧
      sideReach (shapeWidth sh) * (sideReach (shapeHeight sh) * inputReach (scaleTable sh)) < 2 ^ 31 := by
  cases sh <;> decide

theorem inBudget_inScale (sh : Shape) (x : Sample) :
    InBudget (shlSqrt2 (scaleTable sh).inUp (scaleTable sh).inSqrt2 (x.signExtend 32)) (Short (inputReach (scaleTable sh))) := by
  refine ⟨_, exact_inScale_sample sh .dctDct x, ⟨?_⟩⟩
  rw [toInt_scaledInput]
  exact abs_scaledInput_le _ x

/-- No narrowing of the passes is out of budget, whatever the samples. -/
theorem shapePasses_inBudget (sh : Shape) (t : TxType) (x : List (List Sample)) : ((shapePasses sh t x).run false).2 = false := by
  obtain ⟨hrowk, hcolk⟩ := dispatch_ne_wht4 sh t
  obtain ⟨hwidth, hheight⟩ := kernelLen_dispatch sh t
  obtain ⟨hB, hfit⟩ := shape_fits sh
  have hlanes : ∀ row ∈ blockLanes x, ∀ a ∈ row,
      InBudget (shlSqrt2 (scaleTable sh).inUp (scaleTable sh).inSqrt2 a) (Short (inputReach (scaleTable sh))) := by
    intro row hrow a ha
    obtain ⟨samples, _, rfl⟩ := List.mem_map.1 hrow
    obtain ⟨smp, _, rfl⟩ := List.mem_map.1 ha
    exact inBudget_inScale sh smp
  zify at hB hfit
  rcases le_or_gt (shapeWidth sh) (shapeHeight sh) with hle | hlt
  · obtain ⟨T, hT, -⟩ := inBudget_crossPasses (shapeWidth sh) hrowk hcolk hB
      (by rw [hwidth, hheight, mul_left_comm]; exact hfit) hlanes
    rw [(shapePasses_rowsFirst hle t x false).2, hT.run]
  · obtain ⟨T, hT, -⟩ := inBudget_crossPasses (shapeHeight sh) hcolk hrowk hB (by rw [hwidth, hheight]; exact hfit)
      (forall_columns (inBudget_inScale sh 0) hlanes (shapeWidth sh))
    rw [(shapePasses_colsFirst hlt t x false).2, hT.run]

/-- Settles O57: the passes leave the budget bit clear, so a command on ready operands completes whatever DEBUG_CHECKS is. -/
theorem budgetHolds : Obligations.BudgetHolds := by
  refine ⟨fun sh t x _ _ => shapePasses_inBudget sh t x, fun sh t hbd s ready => ?_⟩
  have hbit : (MemCommand.work s.mem s.eng (.block sh t hbd)).computed.viol = false := shapePasses_inBudget sh t _
  obtain ⟨s', hexec, hcompleted⟩ := exec_completes ready (by rw [hbit, Bool.false_and])
  exact ⟨s', hexec, congrArg Visible.run hcompleted.registers, congrArg Visible.status hcompleted.registers⟩

end Sys2Proof.Machine
end

section
/-! PROOFS, zeroing and packing for grids of any size, `NOP` and the `K1D.*` commands (47_repack_and_misc_commands.md R190, R191, R193,
R194). -/

namespace Sys2Proof.Machine

/-- Settles O58: the laws of zeroing and packing, the bound 32 being `Config.keepDim`. -/
theorem zeroAndPack : Obligations.ZeroAndPack := fun _ _ g hrows hcols =>
  have hg := ⟨hrows, hcols⟩
  ⟨fun r c _ _ => at2_zeroHigh g r c, packWords_length hg, fun _ _ hr hc => packWords_getD hg hr hc⟩

/-- Settles O29: a ready command completes with the words it computed, and those are what its kernel puts out. -/
theorem k1dCompletes : Obligations.K1dCompletes := fun k _ ready hbudget =>
  exec_completes (i := .vector k) ready (Bool.and_eq_false_imp.2 hbudget)

/-- A word with OPC = 0 that is not 0 sets a reserved bit or a field that `NOP` has 0 (R72). -/
theorem illegalWord_of_opc_zero {v : Word} (hopc : wOpc v = 0) (hv : v ≠ 0) : IllegalWord v := by
  rw [ne_zero_iff_toNat] at hv
  have hfields : wReserved v ≠ 0 ∨ wSel v ≠ 0 ∨ wTxType v ≠ 0 ∨ wHbd v ≠ 0 := by
    simp only [wOpc, wReserved, wSel, wTxType, wHbd] at hopc ⊢
    omega
  exact hfields.imp_right fun h => .inr (.inl ⟨hopc, h⟩)

/-- Settles O25: `NOP` is completion alone, and every other word with OPC = 0 is illegal. -/
theorem nopCommand : Obligations.NopCommand := by
  refine ⟨fun _ => rfl, fun s v hidle hopc hv => ?_, ?_⟩
  · obtain ⟨r, hr⟩ := decode_of_illegal (illegalWord_of_opc_zero hopc hv)
    exact writeCmd_reject hidle hr
  · exact ⟨_, stepRunsDecoded.2 State.reset 32 0 .nop rfl (decodeEncode .nop), rfl, rfl⟩

end Sys2Proof.Machine
end

section
/-! PROOFS, `FWHT4X4` (47_repack_and_misc_commands.md R192). Samples are too short for any narrowing of its two passes to be out of
budget, so its words are the two passes on exact integers times 4, and these passes have an inverse. -/

namespace Sys2Proof.Machine

/-! ### The transform on exact integers -/

/-- The pass of R135 on the numbers `x 0` to `x 3`. -/
def wht4Of (x : Nat → Int) : Int × Int × Int × Int := wht4Int (x 0) (x 1) (x 2) (x 3)

/-- Element `(r, c)` of the transform of the block `x`: the pass on the rows, then on the columns. -/
def wht4x4Int (x : Nat → Nat → Int) (r c : Nat) : Int := pick4 (wht4Of fun i => pick4 (wht4Of (x i)) c) r

theorem wht4Of_congr {x y : Nat → Int} (h : ∀ i, i < 4 → x i = y i) : wht4Of x = wht4Of y := by
  rw [wht4Of, h 0 (by decide), h 1 (by decide), h 2 (by decide), h 3 (by decide)]
  rfl

theorem wht4x4Int_congr {x y : Nat → Nat → Int} (h : ∀ r c, r < 4 → c < 4 → x r c = y r c) : wht4x4Int x = wht4x4Int y := by
  funext r c
  rw [wht4x4Int, wht4Of_congr fun i hi => congrArg (pick4 · c) (wht4Of_congr (h i · hi))]
  rfl

theorem pick4_of_lt (x : Nat → Int) {i : Nat} (hi : i < 4) : pick4 (x 0, x 1, x 2, x 3) i = x i := by
  interval_cases i <;> rfl

/-- What holds of four numbers holds of whichever is picked. -/
theorem pick4_forall {P : Int → Prop} {p q r s : Int} (h : P p ∧ P q ∧ P r ∧ P s) (i : Nat) : P (pick4 (p, q, r, s) i) := by
  obtain ⟨hp, hq, hr, hs⟩ := h
  match i with
  | 0 => exact hp
  | 1 => exact hq
  | 2 => exact hr
  | _ + 3 => exact hs

/-- The pass makes a number at most five times as long. -/
theorem abs_pick4_wht4Of_le {x : Nat → Int} {B : Int} (hx : ∀ j, j < 4 → |x j| ≤ B) (i : Nat) : |pick4 (wht4Of x) i| ≤ 5 * B := by
  have h0 := abs_le.1 (hx 0 (by decide))
  have h1 := abs_le.1 (hx 1 (by decide))
  have h2 := abs_le.1 (hx 2 (by decide))
  have h3 := abs_le.1 (hx 3 (by decide))
  refine pick4_forall (P := fun y => |y| ≤ 5 * B) ?_ i
  simp only [abs_le]
  omega

theorem pick4_wht4Of_const (v : Int) (i : Nat) : pick4 (wht4Of fun _ => v) i = if i = 0 then 2 * v else 0 := by
  rw [wht4Of, wht4Int_const]
  match i with
  | 0 => rfl
  | 1 => rfl
  | 2 => rfl
  | _ + 3 => rfl

/-- A constant block has its transform in the corner. -/
theorem wht4x4Int_const (v : Int) (r c : Nat) : wht4x4Int (fun _ _ => v) r c = if r = 0 ∧ c = 0 then 4 * v else 0 := by
  simp only [wht4x4Int, pick4_wht4Of_const]
  split_ifs <;> omega

/-- The inverse pass undoes the pass. -/
theorem pick4_iwht4_wht4Of (x : Nat → Int) {i : Nat} (hi : i < 4) :
    pick4 (iwht4 (pick4 (wht4Of x) 0) (pick4 (wht4Of x) 1) (pick4 (wht4Of x) 2) (pick4 (wht4Of x) 3)) i = x i := by
  have hinverse : iwht4 _ _ _ _ = (x 0, x 1, x 2, x 3) := iwht4_wht4Int (rfl : _ = wht4Of x)
  exact (congrArg (pick4 · i) hinverse).trans (pick4_of_lt x hi)

/-- Words that are four times the transform of a block give back the block. -/
theorem iwht4x4_wht4x4Int {word : Nat → Int} {x : Nat → Nat → Int}
    (hword : ∀ r c, r < 4 → c < 4 → word (4 * r + c) = 4 * wht4x4Int x r c) {r c : Nat} (hr : r < 4) (hc : c < 4) :
    iwht4x4 word r c = x r c := by
  have hquot (i j : Nat) (hi : i < 4) (hj : j < 4) : word (4 * i + j) / 4 = pick4 (wht4Of fun i => pick4 (wht4Of (x i)) j) i := by
    rw [hword i j hi hj, Int.mul_ediv_cancel_left _ (by decide), wht4x4Int]
  have hcolumn (j : Nat) := pick4_iwht4_wht4Of (fun i => pick4 (wht4Of (x i)) j) hr
  simp (disch := decide) only [iwht4x4, hquot, hcolumn]
  exact pick4_iwht4_wht4Of (x r) hc

/-! ### The two passes -/

/-- Element by element, the answer of `mapM` is what the elements' calculations answer. -/
theorem inBudget_mapM_forall₂ {α β : Type} {f : α → Calc β} {R : α → β → Prop} (xs : List α)
    (h : ∀ x ∈ xs, InBudget (f x) (R x)) : InBudget (xs.mapM f) fun ys => List.Forall₂ R xs ys := by
  induction xs with
  | nil => exact inBudget_pure .nil
  | cons x xs ih =>
    rw [List.mapM_cons]
    exact inBudget_bind (h x (by simp)) fun y hy =>
      inBudget_bind (ih fun z hz => h z (by simp [hz])) fun ys hys => inBudget_pure (.cons hy hys)

/-- The numbers of a vector of lanes. -/
def laneInts (v : List Lane) (i : Nat) : Int := (lane v i).toInt

/-- WHT4 on lanes of at most 28 bits is the pass on their numbers. -/
theorem inBudget_wht4 {v : List Lane} {B : Int} (hB : B < 2 ^ 28) (hv : ∀ i, i < 4 → |laneInts v i| ≤ B) :
    InBudget (wht4 v) fun o => ∃ p q r s : Lane, o = [p, q, r, s] ∧ (p.toInt, q.toInt, r.toInt, s.toInt) = wht4Of (laneInts v) := by
  have hshort (i : Nat) (hi : i < 4) : |(lane v i).toInt| < 2 ^ 28 := (hv i hi).trans_lt hB
  obtain ⟨o, ho⟩ := exists_exact_wht4 (hshort 0 (by decide)) (hshort 1 (by decide)) (hshort 2 (by decide)) (hshort 3 (by decide))
  exact ⟨o, ho, exact_wht4_toInt ho⟩

/-- A calculation on a lane of magnitude at most `n` is in budget and answers `k` times the lane. -/
def Multiplies (n k : Int) (f : Lane → Calc Lane) : Prop := ∀ a, Short n a → InBudget (f a) fun y => y.toInt = k * a.toInt

theorem multiplies_pure (n : Int) : Multiplies n 1 pure := fun a _ => inBudget_pure (one_mul a.toInt).symm

theorem multiplies_unitQuant {n : Int} (hn : 4 * n < 2 ^ 31) : Multiplies n 4 fun v => shl v Config.unitQuantShift := by
  intro a ha
  have hrange := abs_le.1 ha.le
  exact ⟨_, exact_shl (k := 2) (by omega) (by omega), toInt_ofInt_of_range _ (by omega) (by omega)⟩

section
variable {B k : Int} {post : Lane → Calc Lane} (hB : B < 2 ^ 28) (hpost : Multiplies (5 * B) k post)
include hB hpost

theorem inBudget_passVector_wht4 {v : List Lane} (hv : ∀ i, i < 4 → |laneInts v i| ≤ B) :
    InBudget (passVector .wht4 pure post v) fun x => ∀ i, i < 4 → laneInts x.2 i = k * pick4 (wht4Of (laneInts v)) i := by
  have hinput : Exact (v.mapM pure) v := by
    have := exact_mapM (g := id) v fun a _ => exact_pure a
    rwa [List.map_id] at this
  obtain ⟨_, hrun, p, q, r, s, rfl, hvalues⟩ := inBudget_wht4 hB hv
  have hbound := abs_pick4_wht4Of_le hv
  rw [← hvalues] at hbound ⊢
  have hshort : ∀ a ∈ [p, q, r, s], Short (5 * B) a := by
    simp only [List.forall_mem_cons]
    exact ⟨⟨hbound 0⟩, ⟨hbound 1⟩, ⟨hbound 2⟩, ⟨hbound 3⟩, by simp⟩
  obtain ⟨out, hout, hmultiples⟩ := inBudget_mapM_forall₂ [p, q, r, s] fun a ha => hpost a (hshort a ha)
  refine ⟨_, exact_bind hinput (exact_bind (exact_bind hrun (exact_pure _)) (exact_bind hout (exact_pure _))), fun i hi => ?_⟩
  simp only [List.forall₂_cons_left_iff, List.forall₂_nil_left_iff] at hmultiples
  obtain ⟨p', _, hp, ⟨q', _, hq, ⟨r', _, hr, ⟨s', _, hs, rfl, rfl⟩, rfl⟩, rfl⟩, rfl⟩ := hmultiples
  match i with
  | 0 => exact hp
  | 1 => exact hq
  | 2 => exact hr
  | 3 => exact hs

/-- One pass over the rows of a grid of numbers. -/
theorem inBudget_pass_wht4 {vs : List (List Lane)} (hlen : vs.length = 4)
    (hvs : ∀ r c, r < 4 → c < 4 → |(at2 vs r c).toInt| ≤ B) :
    InBudget (pass .wht4 pure post vs) fun p => ∀ r c, r < 4 → c < 4 →
      (at2 (p.map Prod.snd) r c).toInt = k * pick4 (wht4Of fun j => (at2 vs r j).toInt) c := by
  refine (inBudget_mapM_forall₂ vs fun v hv => inBudget_passVector_wht4 hB hpost fun c hc => ?_).mono fun p hp r c hr hc => ?_
  · obtain ⟨r, hr, rfl⟩ := List.getElem_of_mem hv
    have := hvs r c (hlen ▸ hr) hc
    rwa [at2, List.getD_eq_getElem _ _ hr] at this
  · obtain ⟨hlenp, hget⟩ := List.forall₂_iff_get.1 hp
    have hrp : r < p.length := by omega
    simp only [at2]
    rw [List.getD_eq_getElem _ _ (by rwa [List.length_map]), List.getElem_map, List.getD_eq_getElem _ _ (by omega)]
    exact hget r (by omega) hrp c hc

end

/-- The passes on numbers of the length of samples leave four times the transform. -/
theorem inBudget_whtPasses {x : List (List Lane)} (hlen : x.length = 4)
    (hx : ∀ r c, r < 4 → c < 4 → |(at2 x r c).toInt| ≤ 2 ^ 15) :
    InBudget (whtPasses x) fun p => ∀ r c, r < 4 → c < 4 →
      (at2 p.res r c).toInt = 4 * wht4x4Int (fun i j => (at2 x i j).toInt) r c := by
  refine inBudget_bind (inBudget_pass_wht4 (by norm_num) (multiplies_pure _) hlen hx) fun p hp => ?_
  simp only [one_mul] at hp
  refine inBudget_bind (inBudget_pass_wht4 (B := 5 * 2 ^ 15) (by norm_num) (multiplies_unitQuant (by norm_num))
    (by simp [columns]) fun c r hc hr => ?_) fun q hq => inBudget_pure fun r c hr hc => ?_
  · rw [at2_columns _ _ hc, hp r c hr hc]
    exact abs_pick4_wht4Of_le (hx r · hr) c
  · rw [at2_columns _ _ hr, hq c r hc hr, wht4x4Int]
    rw [wht4Of_congr fun i hi => by rw [at2_columns _ _ hc, hp i c hi hc]]

/-! ### The command -/

theorem at2_whtBlock (hbd : Bool) (m : Memory) (e : Engine) {r c : Nat} (hr : r < 4) (hc : c < 4) :
    at2 (whtBlock hbd m e) r c = (sample m e hbd r c).signExtend 32 := by
  simp [at2, lane, whtBlock, hr, hc]

/-- The passes of `FWHT4X4` never leave the budget, and leave four times the transform of the samples. -/
theorem inBudget_whtPasses_whtBlock (hbd : Bool) (m : Memory) (e : Engine) :
    InBudget (whtPasses (whtBlock hbd m e)) fun p => ∀ r c, r < 4 → c < 4 →
      (at2 p.res r c).toInt = 4 * wht4x4Int (fun i j => (sample m e hbd i j).toInt) r c := by
  have hblock (r c : Nat) (hr : r < 4) (hc : c < 4) : (at2 (whtBlock hbd m e) r c).toInt = (sample m e hbd r c).toInt := by
    rw [at2_whtBlock hbd m e hr hc, toInt_signExtend_sample]
  rw [← wht4x4Int_congr hblock]
  refine inBudget_whtPasses (isGrid_whtBlock hbd m e).1 fun r c hr hc => ?_
  have := sample_range (sample m e hbd r c)
  rw [hblock r c hr hc, abs_le]
  omega

/-- Word `4 r + c` of the command. -/
theorem whtWork_words_getD (hbd : Bool) (m : Memory) (e : Engine) {r c : Nat} (hc : c < 4) :
    (MemCommand.work m e (.wht hbd)).words.getD (4 * r + c) 0 = at2 ((whtPasses (whtBlock hbd m e)).run false).1.res r c := by
  have hres := (whtPasses_fits (isGrid_whtBlock hbd m e) false).res
  rw [MemCommand.work, whtWork_words, Nat.mul_comm, flatten_getD 0 hres.2 hc]
  rfl

theorem toInt_whtWork_words (hbd : Bool) (m : Memory) (e : Engine) {r c : Nat} (hr : r < 4) (hc : c < 4) :
    ((MemCommand.work m e (.wht hbd)).words.getD (4 * r + c) 0).toInt =
      4 * wht4x4Int (fun i j => (sample m e hbd i j).toInt) r c := by
  obtain ⟨p, hrun, hp⟩ := inBudget_whtPasses_whtBlock hbd m e
  rw [whtWork_words_getD hbd m e hc, hrun.run]
  exact hp r c hr hc

/-- On ready operands `FWHT4X4` completes, whatever DEBUG_CHECKS is. -/
theorem exec_wht_completes {hbd : Bool} {s : State} (ready : Ready (MemCommand.transfer s.eng (.wht hbd)) s) :
    ∃ s', exec (.fwht4x4 hbd) s = .next s' ∧
      Completed (MemCommand.transfer s.eng (.wht hbd)) (MemCommand.work s.mem s.eng (.wht hbd)).words s s' := by
  obtain ⟨p, hrun, _⟩ := inBudget_whtPasses_whtBlock hbd s.mem s.eng
  have hbit : (MemCommand.work s.mem s.eng (.wht hbd)).computed.viol = false := by
    rw [MemCommand.work, whtWork_viol, hrun.run]
  exact exec_completes (i := .wht hbd) ready (by rw [hbit, Bool.false_and])

/-- The words of a constant block: the corner, and zeros. -/
theorem whtWork_words_const {hbd : Bool} {m : Memory} {e : Engine} {v : Sample}
    (hv : ∀ r c, r < 4 → c < 4 → sample m e hbd r c = v) :
    (MemCommand.work m e (.wht hbd)).words = BitVec.ofInt 32 (16 * v.toInt) :: List.replicate 15 0 := by
  have hlen : (MemCommand.work m e (.wht hbd)).words.length = 16 := work_words_length (.wht hbd) m e
  refine List.ext_getElem (by rw [hlen]; rfl) fun i hi _ => ?_
  have hword := toInt_whtWork_words hbd m e (r := i / 4) (c := i % 4) (by omega) (Nat.mod_lt _ (by decide))
  have hcorner : i / 4 = 0 ∧ i % 4 = 0 ↔ i = 0 := by omega
  simp only [wht4x4Int_congr fun r c hr hc => congrArg BitVec.toInt (hv r c hr hc), wht4x4Int_const, Nat.div_add_mod, hcorner,
    List.getD_eq_getElem _ _ hi] at hword
  rw [eq_ofInt_of_toInt hword]
  cases i with
  | zero => exact congrArg (BitVec.ofInt 32) (mul_assoc 4 4 v.toInt).symm
  | succ i => rw [List.getElem_cons_succ, List.getElem_replicate]; rfl

/-- Settles O27: no narrowing is out of budget, so a ready command completes with its words. -/
theorem fwhtCompletes : Obligations.FwhtCompletes := by
  intro hbd s ready
  obtain ⟨s', hexec, hcompleted⟩ := exec_wht_completes ready
  exact ⟨s', _, hexec, hcompleted, fun r c _ hc => whtWork_words_getD hbd s.mem s.eng hc, fun v hv => whtWork_words_const hv⟩

/-- Settles O28: the words stored are four times the transform of the samples. -/
theorem fwhtLossless : Obligations.FwhtLossless := by
  intro hbd s s' ready hexec r c hr hc
  obtain ⟨t, hexec', hcompleted⟩ := exec_wht_completes ready
  cases hexec.symm.trans hexec'
  refine iwht4x4_wht4x4Int (x := fun r c => (sample s.mem s.eng hbd r c).toInt) (fun i j hi hj => ?_) hr hc
  rw [hcompleted.stored _ (show 4 * i + j < 16 by omega), BitVec.ofNat_toNat, BitVec.setWidth_eq]
  exact toInt_whtWork_words hbd s.mem s.eng hi hj

end Sys2Proof.Machine
end

section
/-! PROOFS, the engines under the hosts' actions, and the faults (60_exceptions.md R201 to R205, R212, R213; 10_state.md R18). Every
action works on the engine it addresses alone, keeps its CAP and, unless it is the reset, keeps the fault of a FAULTED one. -/

namespace Sys2Proof.Machine

/-! ### The engine an action addresses -/

theorem focus_eq_none {k : Nat} {s : State} (h : s.engines.length ≤ k) : focus k s = none := by
  rw [← Option.not_isSome_iff_eq_none, focus_isSome]
  exact Nat.not_lt.2 h

theorem onEngine_absent {k : Nat} {s : State} (act : State → Host.Outcome State Fault Refusal) (h : s.engines.length ≤ k) :
    onEngine k act s = .refused .noSuchEngine := by
  rw [onEngine, focus_eq_none h]

/-- Settles O11: each of the three actions is one on an engine. -/
theorem noSuchEngine : Obligations.NoSuchEngine := fun _ _ _ _ _ h =>
  ⟨onEngine_absent _ h, onEngine_absent _ h, onEngine_absent _ h⟩

/-- An operation on the current engine that leaves the others, and the CAP of this one. -/
structure OnCurrent (s s' : State) : Prop where
  lower : s'.lower = s.lower
  upper : s'.upper = s.upper
  cap : s'.eng.cap = s.eng.cap

/-- A FAULTED engine stays FAULTED, with the same STATUS, FINFO and CMD (R205). -/
def KeepsFault (e e' : Engine) : Prop :=
  e.run = .faulted → e'.run = .faulted ∧ e'.status = e.status ∧ e'.finfo = e.finfo ∧ e'.cmd = e.cmd

theorem KeepsFault.refl (e : Engine) : KeepsFault e e := fun h => ⟨h, rfl, rfl, rfl⟩

theorem writeCmd_onCurrent {v : Word} {s s' : State} (h : writeCmd v s = .next s') :
    OnCurrent s s' ∧ KeepsFault s.eng s'.eng := by
  cases hrun : s.eng.run with
  | idle =>
    have ran := writeCmd_ran hrun h
    exact ⟨⟨ran.lower, ran.upper, ran.operands.2.1⟩, fun hf => nomatch hrun.symm.trans hf⟩
  | faulted =>
    cases (writeCmd_faulted hrun).symm.trans h
    exact ⟨⟨rfl, rfl, rfl⟩, .refl _⟩

theorem regStore_cap (e : Engine) (off : Nat) (v : Word) : (regStore e off v).cap = e.cap := by
  unfold regStore
  split <;> rfl

theorem regStore_keepsFault (e : Engine) (off : Nat) (v : Word) : KeepsFault e (regStore e off v) := by
  unfold regStore
  split <;> exact fun h => ⟨h, rfl, rfl, rfl⟩

theorem regWrite_onCurrent {off width : Nat} {v : Word} {s s' : State} (h : regWrite off width v s = .next s') :
    OnCurrent s s' ∧ KeepsFault s.eng s'.eng := by
  unfold regWrite at h
  split at h
  · split at h
    · exact writeCmd_onCurrent h
    · cases h
      exact ⟨⟨rfl, rfl, regStore_cap _ _ _⟩, regStore_keepsFault _ _ _⟩
  · cases h

theorem regRead_onCurrent {off width : Nat} {s s' : State} (h : regRead off width s = .next s') :
    OnCurrent s s' ∧ KeepsFault s.eng s'.eng := by
  unfold regRead at h
  split at h <;> cases h
  exact ⟨⟨rfl, rfl, rfl⟩, .refl _⟩

theorem hostStore_engines {w : StoreWidth} {addr v : Word} {s s' : State} (h : hostStore w addr v s = .next s') :
    s'.engines = s.engines := by
  unfold hostStore at h
  split_ifs at h
  cases h
  rfl

theorem hostLoad_engines {addr : Word} {s s' : State} (h : hostLoad addr s = .next s') : s'.engines = s.engines := by
  unfold hostLoad at h
  split_ifs at h
  cases h
  rfl

/-- The action addresses engine `k` of the engines `es` and changes that one alone; the engine, which was `e`, keeps its CAP and,
unless the action is its reset, its fault. -/
structure ActsOn (act : HostAction) (k : Nat) (e : Engine) (es : List Engine) (s' : State) : Prop where
  addressed : addressed act = some k
  present : es[k]? = some e
  engines : s'.engines = es.set k s'.eng
  cap : s'.eng.cap = e.cap
  fault : act ≠ .reset k → KeepsFault e s'.eng

theorem ActsOn.of_onCurrent {act : HostAction} {k : Nat} {s t s' : State} (haddr : Machine.addressed act = some k)
    (hf : focus k s = some t) (h : OnCurrent t s') (hfault : act ≠ .reset k → KeepsFault t.eng s'.eng) :
    ActsOn act k t.eng s.engines s' := by
  obtain ⟨hengines, hindex, heng, _⟩ := focus_some hf
  refine ⟨haddr, heng, ?_, h.cap, hfault⟩
  rw [engines_set t s' h.lower h.upper, hengines, hindex]

/-- What an action with a next state does to the engines. -/
theorem hostAction_engines {act : HostAction} {s s' : State} (h : hostAction act s = .next s') :
    s'.engines = s.engines ∨ ∃ k e, ActsOn act k e s.engines s' := by
  cases act with
  | regWrite e off width v =>
    obtain ⟨t, hf, h⟩ := onEngine_next h
    obtain ⟨hcur, hfault⟩ := regWrite_onCurrent h
    exact .inr ⟨e, t.eng, .of_onCurrent rfl hf hcur fun _ => hfault⟩
  | regRead e off width =>
    obtain ⟨t, hf, h⟩ := onEngine_next h
    obtain ⟨hcur, hfault⟩ := regRead_onCurrent h
    exact .inr ⟨e, t.eng, .of_onCurrent rfl hf hcur fun _ => hfault⟩
  | store w addr v => exact .inl (hostStore_engines h)
  | load addr => exact .inl (hostLoad_engines h)
  | reset e =>
    obtain ⟨t, hf, h⟩ := onEngine_next h
    cases h
    exact .inr ⟨e, t.eng, .of_onCurrent rfl hf ⟨rfl, rfl, rfl⟩ fun hne => absurd rfl hne⟩
  | sync => cases h; exact .inl rfl
  | signal token => cases h; exact .inl rfl
  | wait token => cases h; exact .inl rfl

/-- The host an action comes from makes no difference to the engines. -/
theorem hostStep_engines {op : HostOp} {s s' : State} (h : hostStep op s = .next s') :
    s'.engines = s.engines ∨ ∃ k e, ActsOn op.act k e s.engines s' :=
  hostAction_engines (s := { s with host := op.host }) h

theorem ActsOn.others {act : HostAction} {j k : Nat} {e : Engine} {es : List Engine} {s' : State} (h : ActsOn act j e es s')
    (hk : Machine.addressed act ≠ some k) : s'.engines[k]? = es[k]? := by
  have hjk : j ≠ k := fun hjk => hk (hjk ▸ h.addressed)
  rw [h.engines, List.getElem?_set_ne hjk]

theorem ActsOn.caps {act : HostAction} {k : Nat} {e : Engine} {es : List Engine} {s' : State} (h : ActsOn act k e es s') :
    s'.engines.map Engine.cap = es.map Engine.cap := by
  obtain ⟨hk, rfl⟩ := List.getElem?_eq_some_iff.1 h.present
  rw [h.engines, List.map_set, h.cap, ← List.getElem_map Engine.cap (h := by rwa [List.length_map]), List.set_getElem_self]

/-- Settles O10: an action touches no engine or works on the one it addresses. -/
theorem otherEngines : Obligations.OtherEngines := by
  intro s s' op h
  rcases hostStep_engines h with hsame | ⟨k, e, hacts⟩
  · rw [hsame]
    exact ⟨rfl, fun _ _ => rfl, rfl⟩
  · exact ⟨by rw [hacts.engines, List.length_set], fun _ => hacts.others, hacts.caps⟩

/-- The engine addressed keeps its fault, and so does every other. -/
theorem ActsOn.keepsFault {act : HostAction} {j k : Nat} {d e : Engine} {es : List Engine} {s' : State} (h : ActsOn act j d es s')
    (he : es[k]? = some e) (hreset : act ≠ .reset k) : ∃ e', s'.engines[k]? = some e' ∧ KeepsFault e e' := by
  by_cases hk : Machine.addressed act = some k
  · cases h.addressed.symm.trans hk
    cases h.present.symm.trans he
    have hlt := (List.getElem?_eq_some_iff.1 he).1
    exact ⟨s'.eng, by rw [h.engines, List.getElem?_set_self hlt], h.fault hreset⟩
  · exact ⟨e, (h.others hk).trans he, .refl e⟩

/-- Settles O12: the accesses by their definitions, and every action but the reset keeps the fault. -/
theorem faultedStays : Obligations.FaultedStays := by
  refine ⟨fun s v hf => ?_, fun s s' op k e h he hf hreset => ?_⟩
  · refine ⟨writeCmd_faulted hf, rfl, rfl, rfl, fun off halign hoff => ?_⟩
    rw [regRead, if_pos (by simp [regAccessOk, halign, hoff])]
  · rcases hostStep_engines h with hsame | ⟨_, _, hacts⟩
    · exact ⟨e, by rw [hsame, he], KeepsFault.refl e hf⟩
    · obtain ⟨e', he', hkeeps⟩ := hacts.keepsFault he hreset
      exact ⟨e', he', hkeeps hf⟩

/-! ### Taking a fault -/

theorem statusDone_setFault (c : Cause) (st : Word) : statusDone (setFault c st) = false := by
  cases c <;> simp [statusDone, setFault, causeCode]

theorem statusFault_setFault (c : Cause) (st : Word) : statusFault (setFault c st) = true := by
  cases c <;> simp [statusFault, setFault, causeCode]

theorem statusCause_setFault (c : Cause) (st : Word) : statusCause (setFault c st) = causeCode c := by
  have hkept : (st &&& 0xFFFFFF0C#32).extractLsb' 4 4 = 0 := by
    rw [BitVec.extractLsb'_and]
    exact BitVec.and_zero
  cases c <;> simp [statusCause, setFault, hkept, causeCode, BitVec.extractLsb'_or]

/-- What the host sees of an engine that has taken a fault. -/
theorem raise_visible (c : Cause) {s : State} {e : Engine} (seen : s.eng.visible = e.visible) :
    (raise c s).eng.visible = { e.visible with status := setFault c e.status, finfo := e.cmd, run := .faulted } := by
  rw [← seen, ← show s.eng.status = e.status from congrArg Visible.status seen,
    ← show s.eng.cmd = e.cmd from congrArg Visible.cmd seen]
  rfl

/-- A command on an idle engine that ends FAULTED has taken a fault and done nothing else that can be seen. -/
theorem Ran.of_faulted {s s' : State} (h : Ran s s') (hidle : s.eng.run = .idle) (hf : s'.eng.run = .faulted) :
    s'.mem = s.mem ∧ ∃ c, s'.eng.visible =
      { s.eng.visible with status := setFault c s.eng.status, finfo := s.eng.cmd, run := .faulted } := by
  cases h with
  | faulted c e w seen => exact ⟨rfl, c, raise_visible c seen⟩
  | completed e w m seen _ =>
    have hrun : e.run = s.eng.run := congrArg Visible.run seen
    exact nomatch hidle.symm.trans (hrun.symm.trans hf)

/-- Settles O17: `raise` field by field, and a write of CMD is a `Ran`. -/
theorem raiseFault : Obligations.RaiseFault := by
  refine ⟨fun c s => ?_, fun s s' v hidle h hf => ?_⟩
  · exact ⟨statusDone_setFault c _, statusFault_setFault c _, statusCause_setFault c _, setFault_reserved c _, rfl, rfl, rfl, rfl⟩
  · have ran := writeCmd_ran hidle h
    obtain ⟨hmem, hseen⟩ := ran.of_faulted hidle hf
    exact ⟨hmem, ran.lower, ran.upper, hseen⟩

/-- Settles O21: with the checks on the budget fault is taken before the writes are looked at, with the checks off the command
completes like any other. -/
theorem budgetFault : Obligations.BudgetFault := by
  intro i s halign hregions hreads hviol
  refine ⟨fun hchecks => ?_, fun hchecks hwrites => ?_⟩
  · refine ⟨_, (exec_memCommand i s).trans (perform_budgetFault halign hregions hreads hviol hchecks), rfl, ?_, rfl, rfl⟩
    exact raise_visible .rangeBudget (work_visible i s.mem s.eng).1
  · exact exec_completes ⟨halign, hregions, hreads, hwrites⟩ (by rw [hchecks, Bool.and_false])

end Sys2Proof.Machine
end

section
/-! PROOFS, `Reset(e)` (70_reset_and_hazards.md R230; 60_exceptions.md R206). -/

namespace Sys2Proof.Machine

/-- An engine the system has is the current one once it is brought into `eng`. -/
theorem focus_of_present {k : Nat} {s : State} {e : Engine} (h : s.engines[k]? = some e) :
    ∃ t, focus k s = some t ∧ t.eng = e := by
  have hlt := (List.getElem?_eq_some_iff.1 h).1
  obtain ⟨t, hf⟩ := Option.isSome_iff_exists.1 ((focus_isSome k s).2 hlt)
  obtain ⟨_, _, heng, _⟩ := focus_some hf
  exact ⟨t, hf, Option.some.inj (heng.symm.trans h)⟩

theorem hostAction_reset {k : Nat} {s t : State} (h : focus k s = some t) :
    hostAction (.reset k) s = .next (resetEngine t) :=
  onEngine_of_focus _ h

theorem afterReset_visible (c : Word) : (Engine.afterReset c).visible =
    { cap := c, src := 0, stride := 0, dst := 0, cmd := 0, status := 0, finfo := 0, run := .idle } := rfl

/-- Settles O13: the engine is brought into `eng`, which moves no engine and leaves memory, and `resetEngine` replaces it alone. -/
theorem resetEvent : Obligations.ResetEvent := by
  intro s k e he
  obtain ⟨t, hf, rfl⟩ := focus_of_present he
  obtain ⟨hengines, hindex, _, hmem, _⟩ := focus_some hf
  refine ⟨resetEngine t, Engine.afterReset t.eng.cap, hostAction_reset hf, ?_, hmem, afterReset_visible _⟩
  rw [engines_set t (resetEngine t) rfl rfl, hengines, hindex]
  rfl

end Sys2Proof.Machine
end
